-- ==== Sys2Proof/Word.lean ====
section
/-! DEFINITION. The word types of the frame decoder: payload bytes, logical addresses, identifiers, the 32-bit
words of the controller bank, and the bit patterns of binary64 registers (00_scope.md R9, R13, R15). -/

namespace Sys2Proof

/-- One payload byte or one valve channel, 0..255 (00_scope.md R13, 10_state.md R28). -/
abbrev Byte := BitVec 8

/-- A logical address, ADDR_BITS = 11 (00_scope.md R9). -/
abbrev Addr := BitVec 11

/-- A 32-bit word: a frame identifier, a raw sensor value, or a controller word (00_scope.md R9). -/
abbrev Word := BitVec 32

/-- The bit pattern of an IEEE 754 binary64 number (00_scope.md R15). -/
abbrev F64 := BitVec 64

end Sys2Proof
end

