-- ==== Sys2Proof/Store.lean ====
section
/-! DEFINITION. The Decoder State Store as one record (10_state.md R20, R48): the sizes of its banks, the records of
its ledgers, its elements, and the store that the spec decides for reset. -/

namespace Sys2Proof

/-- Size of the sensor banks, NSENSOR (00_scope.md R9). -/
abbrev nSensor : Nat := 1028
/-- Size of each valve bank, NVALVE (00_scope.md R9). -/
abbrev nValve : Nat := 64
/-- Number of tracked nodes, NNODE (00_scope.md R9). -/
abbrev nNode : Nat := 3
/-- Channels per controller, NCHAN (00_scope.md R9). -/
abbrev nChan : Nat := 50
/-- Number of controllers, NCTRL (00_scope.md R10). -/
abbrev nCtrl : Nat := 11
/-- Largest payload length, MAX_LEN (00_scope.md R9). -/
abbrev maxLen : Nat := 8

namespace Machine

/-- The vehicle-state enumeration; a member's index is its position (10_state.md R31). -/
inductive VehicleState where
  | setup | passive | standby | test | abort | vent | offNominal
  | hiPressArm | hiPressPressurized | tankPressArm | tankPressPressurized | fireArm | fire
  deriving DecidableEq, Repr

/-- One record of a sensor ledger (10_state.md R24). -/
structure SensorRecord where
  time : F64
  value : Word
  deriving DecidableEq, Repr

/-- One record of the autosequence ledger (10_state.md R38). -/
structure AutoseqRecord where
  maxKnownSensorTimestamp : F64
  autosequenceTime : F64
  deriving DecidableEq, Repr

/-- One throttle point (10_state.md R39). -/
structure ThrottlePoint where
  time : BitVec 16
  setpoint : BitVec 16
  deriving DecidableEq, Repr

/-- One record of the debug clock ledger (10_state.md R40). -/
structure DebugRecord where
  messageSequenceNumber : BitVec 64
  seconds : BitVec 64
  microseconds : BitVec 64
  combinedSeconds : F64
  deriving DecidableEq, Repr

/-- The Decoder State Store: every element of 10_state.md R48. -/
@[ext]
structure Store where
  /-- SVAL (10_state.md R22). -/
  sval : Vector Word nSensor
  /-- STIME (10_state.md R23). -/
  stime : Vector F64 nSensor
  /-- SLEDGER (10_state.md R24), oldest record first. -/
  sledger : Vector (List SensorRecord) nSensor
  /-- RC_LAST (10_state.md R26). -/
  rcLast : F64
  /-- RC_ACC (10_state.md R27). -/
  rcAcc : F64
  /-- VPRI (10_state.md R28). -/
  vpri : Vector Byte nValve
  /-- VENG (10_state.md R28). -/
  veng : Vector Byte nValve
  /-- VPROP (10_state.md R28). -/
  vprop : Vector Byte nValve
  /-- NODE (10_state.md R30). -/
  node : Vector VehicleState nNode
  /-- CBANK, controller by channel, raw bits (10_state.md R32, R33). -/
  cbank : Vector (Vector Word nChan) nCtrl
  /-- AS_VALID (10_state.md R35). -/
  asValid : Bool
  /-- AS_TIME (10_state.md R36). -/
  asTime : F64
  /-- AS_DUP (10_state.md R37). -/
  asDup : BitVec 64
  /-- AS_LEDGER (10_state.md R38), oldest record first. -/
  asLedger : List AutoseqRecord
  /-- THR (10_state.md R39), oldest point first. -/
  thr : List ThrottlePoint
  /-- DBG_LEDGER (10_state.md R40), oldest record first. -/
  dbgLedger : List DebugRecord
  /-- FRAME_COUNT (10_state.md R41). -/
  frameCount : BitVec 64
  deriving DecidableEq, Repr

/-- The default of RESET_VALUES (00_scope.md R11): all zero, empty, Setup (10_state.md R48, 70_reset_and_hazards.md R261;
assumption log 10). -/
def Store.initial : Store where
  sval := Vector.replicate nSensor 0
  stime := Vector.replicate nSensor 0
  sledger := Vector.replicate nSensor []
  rcLast := 0
  rcAcc := 0
  vpri := Vector.replicate nValve 0
  veng := Vector.replicate nValve 0
  vprop := Vector.replicate nValve 0
  node := Vector.replicate nNode .setup
  cbank := Vector.replicate nCtrl (Vector.replicate nChan 0)
  asValid := false
  asTime := 0
  asDup := 0
  asLedger := []
  thr := []
  dbgLedger := []
  frameCount := 0

end Machine

end Sys2Proof
end

