-- ==== Sys2Proof/Config.lean ====
section
/-! DEFINITION. What is fixed for the machine: the open parameters of 00_scope.md R11 at the defaults the spec
decides, and the unaudited literals of 93_implementation_defined.md section 3 in one record. Also the one free
value of the model, the bits of a NaN (assumption log 6). -/

namespace Sys2Proof

/-- VALVE_CH2_FIELD (00_scope.md R11, 42_valve.md R152): the identifier bits that carry valve channel 2. -/
inductive ValveCh2Field where
  | bits27to20
  | bits11to4
  deriving DecidableEq, Repr

/-- CTRL_BYTE_ORDER (00_scope.md R11, 20_memory.md R63). -/
inductive ByteOrder where
  | bigEndian
  | littleEndian
  deriving DecidableEq, Repr

/-- ROUND_TIE (00_scope.md R11, 44_controller.md R201). -/
inductive RoundTie where
  | halfToEven
  | halfUp
  deriving DecidableEq, Repr

/-- AS_RESET (00_scope.md R11, 44_controller.md R187): what AUTOSEQ sees before its first frame. -/
inductive AsReset where
  | noPrevious
  | previousZero
  deriving DecidableEq, Repr

/-- The configuration record: parameters of 00_scope.md R11, then the literals of
93_implementation_defined.md section 3. -/
structure Config where
  /-- VALVE_CH2_FIELD (D12). -/
  valveCh2Field : ValveCh2Field := .bits27to20
  /-- CTRL_BYTE_ORDER (D17). -/
  ctrlByteOrder : ByteOrder := .bigEndian
  /-- ROUND_TIE (D21). -/
  roundTie : RoundTie := .halfToEven
  /-- FRAME_COUNT_BASE (D26). -/
  frameCountBase : BitVec 64 := 0
  /-- AS_RESET (D18). -/
  asReset : AsReset := .noPrevious
  /-- SENSOR_TS_BITS (D8). -/
  sensorTsBits : Nat := 21
  /-- LEDGER_CAPACITY (D29); none is unbounded. -/
  ledgerCapacity : Option Nat := none
  /-- RESET_VALUES (D28): the whole reset store. -/
  resetValues : Machine.Store := Machine.Store.initial
  /-- CLOCK selection (45_clock_debug.md R220). -/
  clockAddr : Nat := 268
  /-- Engine valve bank (42_valve.md R157). -/
  valveEngAddr : Nat := 546
  /-- Primary valve bank (42_valve.md R158). -/
  valvePriAddr : Nat := 552
  /-- Prop valve bank (42_valve.md R159). -/
  valvePropAddr : Nat := 547
  /-- Node-state range, exclusive bounds (40_dispatch.md R112). -/
  nodeAbove : Nat := 510
  nodeBelow : Nat := 530
  /-- The three live node addresses (43_node_state.md R171). -/
  node0Addr : Nat := 514
  node1Addr : Nat := 515
  node2Addr : Nat := 520
  /-- Sensor range, exclusive bounds (40_dispatch.md R112). -/
  sensorAbove : Nat := 50
  sensorBelow : Nat := 427
  /-- Controller range, exclusive lower bound (40_dispatch.md R112). -/
  ctrlAbove : Nat := 1000
  /-- Autosequence and throttle addresses (44_controller.md R180). -/
  autoseqAddr : Nat := 1100
  throttleAddr : Nat := 1506
  /-- Signed-integer addresses (44_controller.md R203). -/
  i32AddrA : Nat := 1502
  i32AddrB : Nat := 1504
  /-- Raw-unsigned channels (44_controller.md R204). -/
  u32ChanA : Nat := 14
  u32ChanB : Nat := 15
  /-- Rounding unit and modulus of the controller address (44_controller.md R200). -/
  chanModulus : Nat := 100
  /-- Counter scale 10 / 2^18 (41_sensor.md R133). -/
  tickNum : Nat := 10
  tickDen : Nat := 262144
  /-- WRAP_PERIOD (41_sensor.md R136). -/
  wrapPeriod : Nat := 10
  /-- TIME_DIVISOR (41_sensor.md R137). -/
  timeDivisor : Nat := 8000
  /-- AUTOSEQ_DIVISOR (44_controller.md R183). -/
  autoseqDivisor : Nat := 1000000
  /-- MICRO is the binary64 number nearest 1 / microDen (45_clock_debug.md R223). -/
  microDen : Nat := 1000000
  deriving DecidableEq, Repr

/-- The machine that is modelled: every parameter at the default of 00_scope.md R11. -/
def config : Config := {}

/-- FREE VALUE (assumption log 6). The sign and payload bits of the NaN an operation on these two patterns
gives; 60_exceptions.md R247: no reachable state asks for one. -/
opaque Config.nanBits : F64 → F64 → F64

end Sys2Proof
end

