-- ==== Sys2Proof/Syntax.lean ====
section
/-! DEFINITION. Frames and instructions. A raw frame is what the host presents (30_encoding.md R80); an
instruction is a frame of a known class with its identifier fields pulled out (R81 to R84) and its payload bytes
(R85 to R94). One constructor per mnemonic of spec/opcode_table.json; the table's several rows of one mnemonic
are aligned blocks of its addresses (R101; assumption log 7). -/

namespace Sys2Proof

/-- A frame as presented: 32-bit identifier and payload bytes, offset 0 first (30_encoding.md R80, R65). -/
structure RawFrame where
  identifier : Word
  payload : List Byte
  deriving DecidableEq, Repr

/-- The frame classes (30_encoding.md R91, R92). -/
inductive FrameClass where
  | ignore | sensor | clock | nodeNop | node514 | node515 | node520
  | valveEng | valvePri | valveProp | autoseq | throttle | ctrlI32 | ctrlU32 | ctrlF32
  deriving DecidableEq, Repr

/-- An instruction: a frame class with the operands the class takes from the frame. Identifier bits that a class
does not read (30_encoding.md R83, R84) are not operands. -/
inductive Instr where
  /-- IGNORE (40_dispatch.md R120). -/
  | ignore (a : Addr) (payload : List Byte)
  /-- SENSOR (41_sensor.md R130): address, 21-bit counter, payload. -/
  | sensor (a : Addr) (cnt : BitVec 21) (payload : List Byte)
  /-- CLOCK (45_clock_debug.md R221). -/
  | clock (payload : List Byte)
  /-- NODE.NOP (40_dispatch.md R121). -/
  | nodeNop (a : Addr) (payload : List Byte)
  /-- NODE.514 (43_node_state.md R172). -/
  | node514 (payload : List Byte)
  /-- NODE.515 (43_node_state.md R172). -/
  | node515 (payload : List Byte)
  /-- NODE.520 (43_node_state.md R172). -/
  | node520 (payload : List Byte)
  /-- VALVE.ENG (42_valve.md R157): the two identifier fields before bit reversal, payload. -/
  | valveEng (f1 f2 : Byte) (payload : List Byte)
  /-- VALVE.PRI (42_valve.md R158). -/
  | valvePri (f1 f2 : Byte) (payload : List Byte)
  /-- VALVE.PROP (42_valve.md R159). -/
  | valveProp (f1 f2 : Byte) (payload : List Byte)
  /-- AUTOSEQ (44_controller.md R181). -/
  | autoseq (payload : List Byte)
  /-- THROTTLE (44_controller.md R190). -/
  | throttle (payload : List Byte)
  /-- CTRL.I32 (44_controller.md R203). -/
  | ctrlI32 (a : Addr) (payload : List Byte)
  /-- CTRL.U32 (44_controller.md R204). -/
  | ctrlU32 (a : Addr) (payload : List Byte)
  /-- CTRL.F32 (44_controller.md R205). -/
  | ctrlF32 (a : Addr) (payload : List Byte)
  deriving DecidableEq, Repr

/-- The class an instruction belongs to. -/
def Instr.frameClass : Instr → FrameClass
  | .ignore _ _ => .ignore
  | .sensor _ _ _ => .sensor
  | .clock _ => .clock
  | .nodeNop _ _ => .nodeNop
  | .node514 _ => .node514
  | .node515 _ => .node515
  | .node520 _ => .node520
  | .valveEng _ _ _ => .valveEng
  | .valvePri _ _ _ => .valvePri
  | .valveProp _ _ _ => .valveProp
  | .autoseq _ => .autoseq
  | .throttle _ => .throttle
  | .ctrlI32 _ _ => .ctrlI32
  | .ctrlU32 _ _ => .ctrlU32
  | .ctrlF32 _ _ => .ctrlF32

/-- The payload bytes p[0..L-1] of an instruction's frame. -/
def Instr.payload : Instr → List Byte
  | .ignore _ p => p
  | .sensor _ _ p => p
  | .clock p => p
  | .nodeNop _ p => p
  | .node514 p => p
  | .node515 p => p
  | .node520 p => p
  | .valveEng _ _ p => p
  | .valvePri _ _ p => p
  | .valveProp _ _ p => p
  | .autoseq p => p
  | .throttle p => p
  | .ctrlI32 _ p => p
  | .ctrlU32 _ p => p
  | .ctrlF32 _ p => p

end Sys2Proof
end

