-- ==== Sys2Proof/WellFormed.lean ====
section
/-! DEFINITION. Which instructions stand for a frame: the payload has at most 8 bytes (20_memory.md R69) and the
address lies in the set of its class, the flattened map of 30_encoding.md R91 and R92 written as ranges. -/

namespace Sys2Proof

/-- Addresses of class IGNORE (30_encoding.md R91). -/
def ignoreAddr (n : Nat) : Bool :=
  n ≤ 50 || (427 ≤ n && n ≤ 510) || (530 ≤ n && n ≤ 545) || (548 ≤ n && n ≤ 551) || (553 ≤ n && n ≤ 1000)

/-- Addresses of class SENSOR (30_encoding.md R91). -/
def sensorAddr (n : Nat) : Bool :=
  (51 ≤ n && n ≤ 267) || (269 ≤ n && n ≤ 426)

/-- Addresses of class NODE.NOP (30_encoding.md R91). -/
def nodeNopAddr (n : Nat) : Bool :=
  (511 ≤ n && n ≤ 513) || (516 ≤ n && n ≤ 519) || (521 ≤ n && n ≤ 529)

/-- Addresses of class CTRL.I32 (30_encoding.md R92). -/
def ctrlI32Addr (n : Nat) : Bool :=
  n == 1502 || n == 1504

/-- Addresses of class CTRL.U32 (30_encoding.md R92). -/
def ctrlU32Addr (n : Nat) : Bool :=
  1001 ≤ n && (n % 100 == 14 || n % 100 == 15)

/-- Addresses of class CTRL.F32 (30_encoding.md R92). -/
def ctrlF32Addr (n : Nat) : Bool :=
  1001 ≤ n && n != 1100 && n != 1506 && !ctrlI32Addr n && !ctrlU32Addr n

/-- The address operand, where the class has one, names an address of the class. -/
def Instr.addressOk : Instr → Bool
  | .ignore a _ => ignoreAddr a.toNat
  | .sensor a _ _ => sensorAddr a.toNat
  | .clock _ => true
  | .nodeNop a _ => nodeNopAddr a.toNat
  | .node514 _ => true
  | .node515 _ => true
  | .node520 _ => true
  | .valveEng _ _ _ => true
  | .valvePri _ _ _ => true
  | .valveProp _ _ _ => true
  | .autoseq _ => true
  | .throttle _ => true
  | .ctrlI32 a _ => ctrlI32Addr a.toNat
  | .ctrlU32 a _ => ctrlU32Addr a.toNat
  | .ctrlF32 a _ => ctrlF32Addr a.toNat

/-- The payload has at most MAX_LEN bytes (20_memory.md R69). -/
def Instr.payloadOk (i : Instr) : Bool :=
  i.payload.length ≤ maxLen

/-- An instruction that some frame of the interface stands for. -/
def Instr.wellFormed (i : Instr) : Bool :=
  i.payloadOk && i.addressOk

end Sys2Proof
end

