-- ==== Sys2Proof/Decode.lean ====
section
/-! DEFINITION. The Frame Address Decoder (40_dispatch.md R110), the flattened address map (30_encoding.md R91,
R92), the decoder from raw frames to instructions, total and rejecting by name, the encoder, and the map of
spec/opcode_table.json as data (R101). -/

namespace Sys2Proof

/-- ADDR: the logical address id[10:0] (40_dispatch.md R110). -/
def addrOf (id : Word) : Addr := id.extractLsb' 0 11

/-- The sensor timestamp counter id[31:11] (30_encoding.md R82, 41_sensor.md R132). -/
def cntOf (id : Word) : BitVec 21 := id.extractLsb' 11 21

/-- The channel 1 field id[19:12] of a valve frame (30_encoding.md R83, 42_valve.md R151). -/
def valveField1 (id : Word) : Byte := id.extractLsb' 12 8

/-- The channel 2 field of a valve frame: id[27:20], or id[11:4] at the alternative value of VALVE_CH2_FIELD
(30_encoding.md R83, 42_valve.md R152). -/
def valveField2 (cfg : Config) (id : Word) : Byte :=
  match cfg.valveCh2Field with
  | .bits27to20 => id.extractLsb' 20 8
  | .bits11to4 => id.extractLsb' 4 8

/-- The controller sub-map of addresses above 1000, first match wins (30_encoding.md R92). -/
def ctrlClassOf (cfg : Config) (n : Nat) : FrameClass :=
  if n = cfg.autoseqAddr then .autoseq
  else if n = cfg.throttleAddr then .throttle
  else if n = cfg.i32AddrA ∨ n = cfg.i32AddrB then .ctrlI32
  else if n % cfg.chanModulus = cfg.u32ChanA ∨ n % cfg.chanModulus = cfg.u32ChanB then .ctrlU32
  else .ctrlF32

/-- The class of an address among the node-state addresses (30_encoding.md R91, 43_node_state.md R170). -/
def nodeClassOf (cfg : Config) (n : Nat) : FrameClass :=
  if n = cfg.node0Addr then .node514
  else if n = cfg.node1Addr then .node515
  else if n = cfg.node2Addr then .node520
  else .nodeNop

/-- The address map: the one class an address selects, first match wins (30_encoding.md R90, R91). -/
def classOf (cfg : Config) (a : Addr) : FrameClass :=
  let n := a.toNat
  if n = cfg.clockAddr then .clock
  else if n = cfg.valveEngAddr then .valveEng
  else if n = cfg.valvePriAddr then .valvePri
  else if n = cfg.valvePropAddr then .valveProp
  else if cfg.nodeAbove < n ∧ n < cfg.nodeBelow then nodeClassOf cfg n
  else if cfg.sensorAbove < n ∧ n < cfg.sensorBelow then .sensor
  else if cfg.ctrlAbove < n then ctrlClassOf cfg n
  else .ignore

/-- Why a frame is not an instruction. -/
inductive DecodeError where
  /-- More than 8 payload bytes: the interface cannot present it (20_memory.md R69). -/
  | payloadTooLong
  deriving DecidableEq, Repr

/-- The instruction of a class that a frame stands for, its identifier fields pulled out. -/
def instrOf (cfg : Config) (c : FrameClass) (f : RawFrame) : Instr :=
  match c with
  | .ignore => .ignore (addrOf f.identifier) f.payload
  | .sensor => .sensor (addrOf f.identifier) (cntOf f.identifier) f.payload
  | .clock => .clock f.payload
  | .nodeNop => .nodeNop (addrOf f.identifier) f.payload
  | .node514 => .node514 f.payload
  | .node515 => .node515 f.payload
  | .node520 => .node520 f.payload
  | .valveEng => .valveEng (valveField1 f.identifier) (valveField2 cfg f.identifier) f.payload
  | .valvePri => .valvePri (valveField1 f.identifier) (valveField2 cfg f.identifier) f.payload
  | .valveProp => .valveProp (valveField1 f.identifier) (valveField2 cfg f.identifier) f.payload
  | .autoseq => .autoseq f.payload
  | .throttle => .throttle f.payload
  | .ctrlI32 => .ctrlI32 (addrOf f.identifier) f.payload
  | .ctrlU32 => .ctrlU32 (addrOf f.identifier) f.payload
  | .ctrlF32 => .ctrlF32 (addrOf f.identifier) f.payload

/-- The decoder at a given configuration: total on any frame, and every frame of at most 8 payload bytes is
accepted (30_encoding.md R96). -/
def decodeWith (cfg : Config) (f : RawFrame) : Except DecodeError Instr :=
  if f.payload.length ≤ maxLen then .ok (instrOf cfg (classOf cfg (addrOf f.identifier)) f)
  else .error .payloadTooLong

/-- The decoder. -/
def decode (f : RawFrame) : Except DecodeError Instr := decodeWith config f

/-- An identifier of the PLAIN format, ignored bits zero (30_encoding.md R84, R100). -/
def plainId (n : Nat) : Word := BitVec.ofNat 32 n

/-- An identifier of the SENSOR format: cnt x 2048 + a (30_encoding.md R82, R100). -/
def sensorId (a : Addr) (cnt : BitVec 21) : Word := cnt ++ a

/-- An identifier of the VALVE format, ignored bits zero (30_encoding.md R83, R100). -/
def valveId (n : Nat) (f1 f2 : Byte) : Word :=
  BitVec.ofNat 32 (f2.toNat * 2 ^ 20 + f1.toNat * 2 ^ 12 + n)

/-- The identifier of an instruction's frame, ignored bits zero (30_encoding.md R81 to R84, R100). -/
def Instr.identifier : Instr → Word
  | .ignore a _ => plainId a.toNat
  | .sensor a cnt _ => sensorId a cnt
  | .clock _ => plainId config.clockAddr
  | .nodeNop a _ => plainId a.toNat
  | .node514 _ => plainId config.node0Addr
  | .node515 _ => plainId config.node1Addr
  | .node520 _ => plainId config.node2Addr
  | .valveEng f1 f2 _ => valveId config.valveEngAddr f1 f2
  | .valvePri f1 f2 _ => valveId config.valvePriAddr f1 f2
  | .valveProp f1 f2 _ => valveId config.valvePropAddr f1 f2
  | .autoseq _ => plainId config.autoseqAddr
  | .throttle _ => plainId config.throttleAddr
  | .ctrlI32 a _ => plainId a.toNat
  | .ctrlU32 a _ => plainId a.toNat
  | .ctrlF32 a _ => plainId a.toNat

/-- The encoder: the frame of an instruction, identifier bits that its class ignores being zero. -/
def encode (i : Instr) : RawFrame := ⟨i.identifier, i.payload⟩

/-- The identifier bits a class reads (30_encoding.md R82, R83, R84). -/
def readMask : FrameClass → Word
  | .sensor => 0xFFFFFFFF
  | .valveEng => 0x0FFFF7FF
  | .valvePri => 0x0FFFF7FF
  | .valveProp => 0x0FFFF7FF
  | .ignore => 0x7FF
  | .clock => 0x7FF
  | .nodeNop => 0x7FF
  | .node514 => 0x7FF
  | .node515 => 0x7FF
  | .node520 => 0x7FF
  | .autoseq => 0x7FF
  | .throttle => 0x7FF
  | .ctrlI32 => 0x7FF
  | .ctrlU32 => 0x7FF
  | .ctrlF32 => 0x7FF

/-- The frame whose bits are the low `nbits` bits of `w`: bits 31..0 the identifier, then the eight payload
bytes, p[0] in bits 39..32, L = 8 (assumption log 2). -/
def frameOfWord (nbits w : Nat) : RawFrame :=
  let v := w % 2 ^ nbits
  ⟨BitVec.ofNat 32 v, (List.range maxLen).map fun k => BitVec.ofNat 8 (v / 2 ^ (32 + 8 * k))⟩

/-- The instruction the decoder reads from a table word (assumption log 2). -/
def decodeTableWord (nbits w : Nat) : Option Instr :=
  match decode (frameOfWord nbits w) with
  | .ok i => some i
  | .error _ => none

/-- One row of spec/opcode_table.json (30_encoding.md R101). -/
structure OpcodeRow where
  cls : FrameClass
  matchBits : Word
  mask : Word
  deriving DecidableEq, Repr

/-- The row selects the identifier. -/
def OpcodeRow.selects (r : OpcodeRow) (id : Word) : Bool := (id &&& r.mask) == r.matchBits

/-- Rows of one class from pairs of match and mask. -/
def rowsOf (c : FrameClass) (l : List (Word × Word)) : List OpcodeRow :=
  l.map fun r => ⟨c, r.1, r.2⟩

/-- The rows of spec/opcode_table.json, grouped by class (30_encoding.md R101). -/
def opcodeTable : List OpcodeRow :=
  rowsOf .ignore
    [(0x0, 0x7E0), (0x20, 0x7F0), (0x30, 0x7FE), (0x32, 0x7FF), (0x1AB, 0x7FF), (0x1AC, 0x7FC), (0x1B0,
     0x7F0), (0x1C0, 0x7E0), (0x1E0, 0x7F0), (0x1F0, 0x7F8), (0x1F8, 0x7FC), (0x1FC, 0x7FE), (0x1FE, 0x7FF),
     (0x212, 0x7FE), (0x214, 0x7FC), (0x218, 0x7F8), (0x220, 0x7FE), (0x224, 0x7FC), (0x229, 0x7FF), (0x22A,
     0x7FE), (0x22C, 0x7FC), (0x230, 0x7F0), (0x240, 0x7C0), (0x280, 0x780)] ++
  rowsOf .ignore
    [(0x300, 0x780), (0x380, 0x7C0), (0x3C0, 0x7E0), (0x3E0, 0x7F8), (0x3E8, 0x7FF)] ++
  rowsOf .sensor
    [(0x33, 0x7FF), (0x34, 0x7FC), (0x38, 0x7F8), (0x40, 0x7C0), (0x80, 0x780), (0x100, 0x7F8), (0x108,
     0x7FC), (0x10D, 0x7FF), (0x10E, 0x7FE), (0x110, 0x7F0), (0x120, 0x7E0), (0x140, 0x7C0), (0x180, 0x7E0),
     (0x1A0, 0x7F8), (0x1A8, 0x7FE), (0x1AA, 0x7FF)] ++
  rowsOf .clock
    [(0x10C, 0x7FF)] ++
  rowsOf .nodeNop
    [(0x1FF, 0x7FF), (0x200, 0x7FE), (0x204, 0x7FC), (0x209, 0x7FF), (0x20A, 0x7FE), (0x20C, 0x7FC), (0x210,
     0x7FE)] ++
  rowsOf .node514
    [(0x202, 0x7FF)] ++
  rowsOf .node515
    [(0x203, 0x7FF)] ++
  rowsOf .node520
    [(0x208, 0x7FF)] ++
  rowsOf .valveEng
    [(0x222, 0x7FF)] ++
  rowsOf .valveProp
    [(0x223, 0x7FF)] ++
  rowsOf .valvePri
    [(0x228, 0x7FF)] ++
  rowsOf .ctrlF32
    [(0x3E9, 0x7FF), (0x3EA, 0x7FE), (0x3EC, 0x7FC), (0x3F0, 0x7FC), (0x3F4, 0x7FE), (0x3F8, 0x7F8), (0x400,
     0x7C0), (0x440, 0x7F8), (0x448, 0x7FC), (0x44D, 0x7FF), (0x44E, 0x7FE), (0x450, 0x7F8), (0x458, 0x7FE),
     (0x45C, 0x7FC), (0x460, 0x7E0), (0x480, 0x7E0), (0x4A0, 0x7F0), (0x4B0, 0x7F8), (0x4B8, 0x7FC), (0x4BC,
     0x7FE), (0x4C0, 0x7C0), (0x500, 0x7E0), (0x520, 0x7FE), (0x524, 0x7FC)] ++
  rowsOf .ctrlF32
    [(0x528, 0x7F8), (0x530, 0x7F0), (0x540, 0x7C0), (0x580, 0x7FC), (0x584, 0x7FE), (0x588, 0x7F8), (0x590,
     0x7F0), (0x5A0, 0x7E0), (0x5C0, 0x7F0), (0x5D0, 0x7F8), (0x5D8, 0x7FC), (0x5DC, 0x7FE), (0x5DF, 0x7FF),
     (0x5E1, 0x7FF), (0x5E3, 0x7FF), (0x5E4, 0x7FC), (0x5E8, 0x7FE), (0x5EC, 0x7FC), (0x5F0, 0x7F0), (0x600,
     0x7C0), (0x640, 0x7F8), (0x648, 0x7FC), (0x64C, 0x7FE), (0x650, 0x7F0)] ++
  rowsOf .ctrlF32
    [(0x660, 0x7E0), (0x680, 0x7E0), (0x6A0, 0x7F0), (0x6B0, 0x7FE), (0x6B4, 0x7FC), (0x6B8, 0x7F8), (0x6C0,
     0x7C0), (0x700, 0x7F0), (0x710, 0x7FC), (0x714, 0x7FE), (0x718, 0x7F8), (0x720, 0x7E0), (0x740, 0x7E0),
     (0x760, 0x7F0), (0x770, 0x7F8), (0x778, 0x7FE), (0x77C, 0x7FC), (0x780, 0x7C0), (0x7C0, 0x7F0), (0x7D0,
     0x7F8), (0x7D8, 0x7FC), (0x7DC, 0x7FE), (0x7E0, 0x7E0)] ++
  rowsOf .ctrlU32
    [(0x3F6, 0x7FE), (0x45A, 0x7FE), (0x4BE, 0x7FE), (0x522, 0x7FE), (0x586, 0x7FE), (0x5EA, 0x7FE), (0x64E,
     0x7FE), (0x6B2, 0x7FE), (0x716, 0x7FE), (0x77A, 0x7FE), (0x7DE, 0x7FE)] ++
  rowsOf .autoseq
    [(0x44C, 0x7FF)] ++
  rowsOf .ctrlI32
    [(0x5DE, 0x7FF), (0x5E0, 0x7FF)] ++
  rowsOf .throttle
    [(0x5E2, 0x7FF)]

end Sys2Proof
end

