-- ==== Sys2Proof/Machine/State.lean ====
section
/-! DEFINITION. The machine's state, its reset, and the reasons a step can stop. The Decoder State Store (Store.lean) is
all the state the block has (10_state.md R20); two further fields are the model's own: the result code of the last
step (assumption log 3) and the host operations not yet performed (assumption log 1). -/

namespace Sys2Proof.Machine

/-- The result codes with the value each records (60_exceptions.md R230). -/
inductive Result where
  /-- The frame was decoded completely. -/
  | done
  /-- No handler acted on the frame. -/
  | ignored
  /-- At least one sub-decode was skipped for want of payload bytes. -/
  | short
  /-- A node-state index outside 0..12, with the index. -/
  | badEnum (idx : Byte)
  /-- A controller write outside channels 0..49 was dropped, with controller and channel of the first. -/
  | range (c ch : Nat)
  deriving DecidableEq, Repr

/-- A state-changing operation of the host (70_reset_and_hazards.md R267, R268). -/
inductive HostOp where
  /-- PushFrame: present one frame. -/
  | frame (f : RawFrame)
  /-- Reset: begin a new session (70_reset_and_hazards.md R260). -/
  | reset
  deriving DecidableEq, Repr

/-- The machine: the Decoder State Store of 10_state.md R48, and the model's own `result` and `inbox`. -/
@[ext]
structure State extends Store where
  /-- The model's own: the result code the last step returned (60_exceptions.md R230; assumption log 3). -/
  result : Result
  /-- The model's own: host operations not yet performed, next one first (assumption log 1). -/
  inbox : List HostOp
  deriving DecidableEq, Repr

/-- Why the machine stops with a fault. -/
inductive Fault where
  /-- Raised by the end of a step whose ledgers exceed a finite LEDGER_CAPACITY (93_implementation_defined.md U5:
  "a finite bound must `fault`"). Safe. Cannot occur at the default, unbounded capacity. -/
  | ledgerFull
  deriving DecidableEq, Repr

/-- Why the machine has no meaning for its next operation. -/
inductive Refusal where
  /-- Raised by an arm of exec whose instruction has no meaning yet. Safe. No arm raises it. -/
  | notModelled (mnemonic : String)
  /-- Raised by the step when the host presents a frame of more than 8 payload bytes (20_memory.md R69,
  93_implementation_defined.md U2). Safe. -/
  | payloadTooLong
  deriving DecidableEq, Repr

/-- The store that a configuration resets to: RESET_VALUES, with FRAME_COUNT_BASE added to its FRAME_COUNT, and with a
previous autosequence time of 0.0 where AS_RESET asks for one (00_scope.md R11; assumption log 11). -/
def resetStore (cfg : Config) : Store :=
  let base : Store := { cfg.resetValues with frameCount := cfg.resetValues.frameCount + cfg.frameCountBase }
  match cfg.asReset with
  | .noPrevious => base
  | .previousZero => { base with asValid := true, asTime := 0 }

/-- The machine right after a reset at a configuration, nothing presented yet (70_reset_and_hazards.md R260, R262). -/
def State.resetAt (cfg : Config) : State where
  toStore := resetStore cfg
  result := .done
  inbox := []

/-- The machine right after reset (10_state.md R48, 70_reset_and_hazards.md R261). -/
def State.reset : State := State.resetAt config

end Sys2Proof.Machine
end

