-- ==== Sys2Proof/Machine/Flags.lean ====
section
/-! DEFINITION. The block has no condition codes (10_state.md R43) and nothing traps (60_exceptions.md R238).
What an error does instead is `raise`: it records the frame's result code, and nothing else
(00_scope.md R17, 60_exceptions.md R230, R235). It is the one shared operation that stands where another
hardware takes an exception; there is nothing to return from. -/

namespace Sys2Proof.Machine

/-- The number of a result code (60_exceptions.md R230). -/
def Result.code : Result → Nat
  | .done => 0
  | .ignored => 1
  | .short => 2
  | .badEnum _ => 3
  | .range _ _ => 4

/-- The code recorded after a second cause in one frame: the priority is RANGE, BADENUM, SHORT, IGNORED, DONE, and
of two equal codes the first stays (60_exceptions.md R235). -/
def Result.join (old new : Result) : Result :=
  if old.code < new.code then new else old

/-- raise Code(info): record the result code of the current frame (00_scope.md R17). -/
def raise (r : Result) (s : State) : State := { s with result := s.result.join r }

/-- SHORT when one of the eight payload bytes is missing: valve banks and debug clock (60_exceptions.md R232). -/
def raiseIfShort (p : List Byte) (s : State) : State :=
  if p.length < 8 then raise .short s else s

end Sys2Proof.Machine
end

