-- ==== Sys2Proof/Machine/Float.lean ====
section
/-! DEFINITION. IEEE 754 binary64 arithmetic on bit patterns, round to nearest, ties to even (00_scope.md R15,
92_eei_decisions.md D11; PRESUMED, assumption log 6). Every finite pattern is a whole number of units of 2^-1074,
so sums, products and quotients are computed exactly on natural numbers and rounded once. -/

namespace Sys2Proof.Machine

/-- How many of the smallest binary64 steps make one: 2^1074. -/
def unitsPerOne : Nat := 2 ^ 1074

/-- The magnitude pattern of infinity. -/
def infBits : Nat := 2047 * 2 ^ 52

/-- The sign bit. -/
def F64.isNeg (x : F64) : Bool := x.msb

/-- Exponent and fraction fields together: the pattern without its sign. -/
def F64.magnitude (x : F64) : Nat := x.toNat % 2 ^ 63

/-- The pattern is a NaN. -/
def F64.isNaN (x : F64) : Bool := infBits < F64.magnitude x

/-- The pattern is an infinity. -/
def F64.isInf (x : F64) : Bool := F64.magnitude x == infBits

/-- The pattern is a number, zero included. -/
def F64.isFinite (x : F64) : Bool := F64.magnitude x < infBits

/-- The magnitude of a finite pattern, in units of 2^-1074. -/
def F64.units (x : F64) : Nat :=
  let e := F64.magnitude x / 2 ^ 52
  let frac := F64.magnitude x % 2 ^ 52
  if e = 0 then frac else (2 ^ 52 + frac) * 2 ^ (e - 1)

/-- The value of a finite pattern, in units of 2^-1074. -/
def F64.sunits (x : F64) : Int :=
  if F64.isNeg x then -(F64.units x : Int) else F64.units x

/-- The exact value of a finite pattern. -/
def F64.toRat (x : F64) : Rat := (F64.sunits x : Rat) / (unitsPerOne : Rat)

/-- The whole number nearest N / D, the even one when two are equally near. -/
def roundHalfEven (N D : Nat) : Nat :=
  let q := N / D
  let r := N % D
  if 2 * r < D then q else if D < 2 * r then q + 1 else q + q % 2

/-- The magnitude pattern nearest n / d; infinity when it is too large. -/
def magnitudeNearest (n d : Nat) : Nat :=
  let k := Nat.log2 (n * unitsPerOne / d) - 52
  min (k * 2 ^ 52 + roundHalfEven (n * unitsPerOne) (d * 2 ^ k)) infBits

/-- RN of the exact rational n / d with a sign (00_scope.md R15). -/
def F64.nearest (neg : Bool) (n d : Nat) : F64 :=
  BitVec.ofNat 64 ((if neg then 2 ^ 63 else 0) + magnitudeNearest n d)

/-- RN of z / d for a whole number z; an exact zero is +0.0. -/
def F64.ofIntDiv (z : Int) (d : Nat) : F64 := F64.nearest (decide (z < 0)) z.natAbs d

/-- f64(n), the number nearest a whole number (45_clock_debug.md R223). -/
def F64.ofNat (n : Nat) : F64 := F64.nearest false n 1

/-- An infinity. -/
def F64.inf (neg : Bool) : F64 :=
  BitVec.ofNat 64 ((if neg then 2 ^ 63 else 0) + infBits)

/-- A quiet NaN whose sign and payload are free (assumption log 6). -/
def F64.nan (a b : F64) : F64 :=
  (0x7FF8000000000000#64) ||| (Config.nanBits a b &&& 0x8007FFFFFFFFFFFF#64)

/-- a +f b (00_scope.md R15). -/
def F64.add (a b : F64) : F64 :=
  if F64.isNaN a || F64.isNaN b then F64.nan a b
  else if F64.isInf a && F64.isInf b then
    if F64.isNeg a == F64.isNeg b then a else F64.nan a b
  else if F64.isInf a then a
  else if F64.isInf b then b
  else
    let z := F64.sunits a + F64.sunits b
    F64.nearest (if z = 0 then F64.isNeg a && F64.isNeg b else decide (z < 0)) z.natAbs unitsPerOne

/-- a *f b (00_scope.md R15). -/
def F64.mul (a b : F64) : F64 :=
  let neg := F64.isNeg a != F64.isNeg b
  if F64.isNaN a || F64.isNaN b then F64.nan a b
  else if F64.isInf a || F64.isInf b then
    if F64.units a == 0 || F64.units b == 0 then F64.nan a b else F64.inf neg
  else F64.nearest neg (F64.units a * F64.units b) (unitsPerOne * unitsPerOne)

/-- a /f b (00_scope.md R15). -/
def F64.div (a b : F64) : F64 :=
  let neg := F64.isNeg a != F64.isNeg b
  if F64.isNaN a || F64.isNaN b then F64.nan a b
  else if F64.isInf a then
    if F64.isInf b then F64.nan a b else F64.inf neg
  else if F64.isInf b then F64.nearest neg 0 1
  else if F64.units b == 0 then
    if F64.units a == 0 then F64.nan a b else F64.inf neg
  else F64.nearest neg (F64.units a) (F64.units b)

/-- The place of a pattern in the order of the numbers; both zeros share a place. -/
def F64.key (x : F64) : Int :=
  if F64.isNeg x then -(F64.magnitude x : Int) else F64.magnitude x

/-- a <f b: false when either is a NaN (00_scope.md R15). -/
def F64.lt (a b : F64) : Bool :=
  !F64.isNaN a && !F64.isNaN b && decide (F64.key a < F64.key b)

/-- a ==f b: the two zeros are equal, a NaN equals nothing (00_scope.md R15). -/
def F64.eq (a b : F64) : Bool :=
  !F64.isNaN a && !F64.isNaN b && decide (F64.key a = F64.key b)

/-- maxf of two: the larger, the first when neither is (00_scope.md R15; assumption log 6). -/
def F64.max (a b : F64) : F64 := if F64.lt a b then b else a

/-- Neighbours replaced by the larger of the two. -/
def F64.maxPairs : List F64 → List F64
  | x :: y :: rest => F64.max x y :: F64.maxPairs rest
  | l => l

/-- At most `k` rounds of neighbours until one number is left. -/
def F64.maxRounds : Nat → List F64 → F64
  | _, [] => 0
  | _, [x] => x
  | 0, x :: _ => x
  | k + 1, l => F64.maxRounds k (F64.maxPairs l)

/-- maxf of the entries of a bank (00_scope.md R15), taken by rounds so that the kernel can evaluate it: as many
rounds as entries are more than enough, each halves the list. -/
def F64.maxBank {n : Nat} (v : Vector F64 n) : F64 := F64.maxRounds n v.toList

end Sys2Proof.Machine
end

