-- ==== Sys2Proof/Machine/Operands.lean ====
section
/-! DEFINITION. Operand forms: payload bytes, integers assembled from them, bit reversal, the arithmetic on a
controller address, and the views of a controller word (00_scope.md R13, R14; 30_encoding.md R95). -/

namespace Sys2Proof.Machine

/-- MemRead(off, n): the n payload bytes from offset off (00_scope.md R13). -/
def memRead (p : List Byte) (off n : Nat) : List Byte := (p.drop off).take n

/-- be(b0, .., bk): the first byte is the most significant, 0 for no bytes (00_scope.md R14). -/
def be (bs : List Byte) : Nat := bs.foldl (fun acc b => acc * 256 + b.toNat) 0

/-- le(b0, .., bk): the first byte is the least significant, 0 for no bytes (00_scope.md R14). -/
def le (bs : List Byte) : Nat := be bs.reverse

/-- Bytes assembled in the order CTRL_BYTE_ORDER names (20_memory.md R63; assumption log 9). -/
def ctrlOrder (cfg : Config) (bs : List Byte) : Nat :=
  match cfg.ctrlByteOrder with
  | .bigEndian => be bs
  | .littleEndian => le bs

/-- sint_N(v): the two's complement integer of an N-bit pattern, N at least 1 (00_scope.md R14). -/
def sint (N v : Nat) : Int := if v < 2 ^ (N - 1) then (v : Int) else (v : Int) - 2 ^ N

/-- rev8: bit i of the result is bit 7 - i (00_scope.md R14, 42_valve.md R153). -/
def rev8 (v : Byte) : Byte := v.reverse

/-- The big-endian unsigned 16-bit field at an offset (20_memory.md R62). -/
def be16At (p : List Byte) (off : Nat) : BitVec 16 := BitVec.ofNat 16 (be (memRead p off 2))

/-- A throttle setpoint: two bytes in the order CTRL_BYTE_ORDER names (92_eei_decisions.md D17; assumption log 9). -/
def setpointAt (cfg : Config) (p : List Byte) (off : Nat) : BitVec 16 :=
  BitVec.ofNat 16 (ctrlOrder cfg (memRead p off 2))

/-- A raw sensor value, zero-extended to 32 bits (41_sensor.md R135). -/
def sensorValueAt (p : List Byte) (off : Nat) : Word := (be16At p off).zeroExtend 32

/-- A sensor sub-address byte used as an index as it stands (41_sensor.md R134). -/
def subAddressAt (p : List Byte) (off : Nat) : Nat := be (memRead p off 1)

/-- A 32-bit controller word of four payload bytes (30_encoding.md R93). -/
def ctrlWordAt (cfg : Config) (p : List Byte) (off : Nat) : Word :=
  BitVec.ofNat 32 (ctrlOrder cfg (memRead p off 4))

/-- The signed integer of a whole payload (44_controller.md R182). -/
def autoseqInt (cfg : Config) (p : List Byte) : Int := sint (8 * p.length) (ctrlOrder cfg p)

/-- The debug clock's seconds word: the bytes present among 0..3 (45_clock_debug.md R222). -/
def clockSeconds (p : List Byte) : Nat := le (memRead p 0 4)

/-- The debug clock's microseconds word: the bytes present among 4..7 (45_clock_debug.md R222). -/
def clockMicroseconds (p : List Byte) : Nat := le (memRead p 4 4)

/-- The hundred nearest an address, ties as ROUND_TIE says (44_controller.md R201). -/
def roundAddress (cfg : Config) (n : Nat) : Nat :=
  let m := cfg.chanModulus
  let lo := n - n % m
  if 2 * (n % m) < m then lo
  else if m < 2 * (n % m) then lo + m
  else match cfg.roundTie with
    | .halfToEven => if lo / m % 2 = 0 then lo else lo + m
    | .halfUp => lo + m

/-- The controller id c of an address (44_controller.md R200). -/
def controllerOf (cfg : Config) (n : Nat) : Nat := (roundAddress cfg n - cfg.ctrlAbove) / cfg.chanModulus

/-- The channel index ch of an address (44_controller.md R200). -/
def channelOf (cfg : Config) (n : Nat) : Nat := n % cfg.chanModulus

/-- The member of the vehicle-state enumeration with an index, none above 12 (10_state.md R31). -/
def vehicleState (idx : Nat) : Option VehicleState :=
  match idx with
  | 0 => some .setup
  | 1 => some .passive
  | 2 => some .standby
  | 3 => some .test
  | 4 => some .abort
  | 5 => some .vent
  | 6 => some .offNominal
  | 7 => some .hiPressArm
  | 8 => some .hiPressPressurized
  | 9 => some .tankPressArm
  | 10 => some .tankPressPressurized
  | 11 => some .fireArm
  | 12 => some .fire
  | _ => none

/-- The index of a member (10_state.md R31). -/
def vehicleIndex : VehicleState → Nat
  | .setup => 0
  | .passive => 1
  | .standby => 2
  | .test => 3
  | .abort => 4
  | .vent => 5
  | .offNominal => 6
  | .hiPressArm => 7
  | .hiPressPressurized => 8
  | .tankPressArm => 9
  | .tankPressPressurized => 10
  | .fireArm => 11
  | .fire => 12

/-- The kind a controller write intends, an annotation for the reader (10_state.md R33, 44_controller.md R202). -/
inductive Kind where
  | i32 | u32 | f32
  deriving DecidableEq, Repr

/-- The kind a frame to controller address `n` with `L` payload bytes intends, none when it writes nothing for
want of bytes (44_controller.md R202, R206). -/
def intendedKind (cfg : Config) (n L : Nat) : Option Kind :=
  if L = 8 then
    if n = cfg.i32AddrA ∨ n = cfg.i32AddrB then some .i32
    else if channelOf cfg n = cfg.u32ChanA ∨ channelOf cfg n = cfg.u32ChanB then some .u32
    else some .f32
  else if 4 ≤ L then some .f32
  else none

/-- A binary32 value as its encoding gives it: sign, then what the exponent field says (00_scope.md R15). -/
inductive F32Value where
  | nan (neg : Bool) (payload : BitVec 23)
  | inf (neg : Bool)
  | finite (value : Rat)
  | negZero
  deriving DecidableEq, Repr

/-- f32_of_bits(w): the binary32 value whose encoding is w, a view and never a conversion (00_scope.md R15). -/
def f32OfBits (w : Word) : F32Value :=
  let e := (w.extractLsb' 23 8).toNat
  let frac := w.extractLsb' 0 23
  let m : Nat := if e = 0 then frac.toNat else (2 ^ 23 + frac.toNat) * 2 ^ (e - 1)
  if e = 255 then
    if frac = 0 then .inf w.msb else .nan w.msb frac
  else if m = 0 ∧ w.msb then .negZero
  else .finite ((if w.msb then -(m : Rat) else m) / (2 ^ 149 : Nat))

/-- What a controller word means under a kind (10_state.md R33). -/
inductive CtrlValue where
  | signed (v : Int)
  | unsigned (v : Nat)
  | float (v : F32Value)
  deriving DecidableEq, Repr

/-- A controller word read under a kind (10_state.md R33, 70_reset_and_hazards.md R278). -/
def viewWord (k : Kind) (w : Word) : CtrlValue :=
  match k with
  | .i32 => .signed (sint 32 w.toNat)
  | .u32 => .unsigned w.toNat
  | .f32 => .float (f32OfBits w)

end Sys2Proof.Machine
end

