-- ==== Sys2Proof/Machine/Ops.lean ====
section
/-! DEFINITION. The named operations over the store: element reads and writes of banks, appends to ledgers, the
clear of THR, and the two ends of a step. There is no byte-addressed memory (20_memory.md R60; assumption log 8). -/

namespace Sys2Proof.Machine

/-- X[i] ← g X[i]; an index outside the bank changes nothing (assumption log 8). -/
def modifyAt {α : Type} {n : Nat} (v : Vector α n) (i : Nat) (g : α → α) : Vector α n :=
  if h : i < n then v.set i (g v[i]) else v

/-- Start of a step: the result code is DONE (40_dispatch.md R111). -/
def beginStep (s : State) : State := { s with result := .done }

/-- FRAME_COUNT ← (FRAME_COUNT + 1) mod 2^64 (40_dispatch.md R111, 10_state.md R41). -/
def countFrame (s : State) : State := { s with frameCount := s.frameCount + 1 }

/-- The bank writes and the append of one sensor sample (41_sensor.md R136, R138). -/
def putSample (sid : Nat) (value : Word) (t : F64) (s : State) : State :=
  { s with
    sval := modifyAt s.sval sid fun _ => value
    stime := modifyAt s.stime sid fun _ => t
    sledger := modifyAt s.sledger sid fun l => l ++ [⟨t, value⟩] }

/-- The rollover corrector's registers after a raw timestamp (41_sensor.md R136). -/
def putRollover (last acc : F64) (s : State) : State := { s with rcLast := last, rcAcc := acc }

/-- The three valve banks (42_valve.md R150). -/
inductive ValveBank where
  | eng | pri | prop
  deriving DecidableEq, Repr

/-- Write one element of a valve bank (42_valve.md R156 to R159). -/
def putValve (bank : ValveBank) (j : Nat) (v : Byte) (s : State) : State :=
  match bank with
  | .eng => { s with veng := modifyAt s.veng j fun _ => v }
  | .pri => { s with vpri := modifyAt s.vpri j fun _ => v }
  | .prop => { s with vprop := modifyAt s.vprop j fun _ => v }

/-- NODE[n] ← v (43_node_state.md R171). -/
def putNode (n : Nat) (v : VehicleState) (s : State) : State :=
  { s with node := modifyAt s.node n fun _ => v }

/-- CBANK[c][ch] ← w (44_controller.md R207). -/
def putCtrl (c ch : Nat) (w : Word) (s : State) : State :=
  { s with cbank := modifyAt s.cbank c fun row => modifyAt row ch fun _ => w }

/-- AS_DUP ← d (44_controller.md R181). -/
def putDup (d : BitVec 64) (s : State) : State := { s with asDup := d }

/-- The change path's append and registers: AS_LEDGER, AS_TIME, AS_VALID (44_controller.md R186). -/
def putAutoseq (m t : F64) (s : State) : State :=
  { s with asLedger := s.asLedger ++ [⟨m, t⟩], asTime := t, asValid := true }

/-- Clear(THR) (44_controller.md R191). -/
def clearThr (s : State) : State := { s with thr := [] }

/-- Append(THR, point) (44_controller.md R190). -/
def appendThr (pt : ThrottlePoint) (s : State) : State := { s with thr := s.thr ++ [pt] }

/-- Append(DBG_LEDGER, record) (45_clock_debug.md R224). -/
def appendDebug (r : DebugRecord) (s : State) : State := { s with dbgLedger := s.dbgLedger ++ [r] }

/-- Some ledger is longer than a finite LEDGER_CAPACITY (00_scope.md R11, 93_implementation_defined.md U5). -/
def overCapacity (cfg : Config) (s : State) : Bool :=
  match cfg.ledgerCapacity with
  | none => false
  | some n =>
    s.sledger.toList.any (fun l => decide (n < l.length)) || decide (n < s.asLedger.length) ||
      decide (n < s.thr.length) || decide (n < s.dbgLedger.length)

/-- End of a step: the frame is counted and the new store handed over, or the step faults when a ledger does not
fit a finite capacity (40_dispatch.md R111, 93_implementation_defined.md U5). -/
def endStep (cfg : Config) (s : State) : Host.Outcome State Fault Refusal :=
  if overCapacity cfg s then .fault .ledgerFull else .next (countFrame s)

/-- One step around a handler's work: result DONE, the work, FRAME_COUNT (40_dispatch.md R111). -/
def runFrame (cfg : Config) (work : State → State) (s : State) : Host.Outcome State Fault Refusal :=
  endStep cfg (work (beginStep s))

/-- RESET at a configuration: every element of the store takes its reset value; what the host has yet to do is not
state of the block and stays (70_reset_and_hazards.md R260; assumption logs 5, 11). -/
def resetMachine (cfg : Config) (s : State) : State := { State.resetAt cfg with inbox := s.inbox }

end Sys2Proof.Machine
end

