-- ==== Sys2Proof/Machine/Clock.lean ====
section
/-! DEFINITION. The Clock/Debug Decoder (45_clock_debug.md). -/

namespace Sys2Proof.Machine

/-- The combined time: seconds + microseconds x 1e-6, the product rounded, then the sum (45_clock_debug.md R223). -/
def combinedSeconds (cfg : Config) (sec usec : Nat) : F64 :=
  F64.add (F64.ofNat sec) (F64.mul (F64.ofNat usec) (F64.nearest false 1 cfg.microDen))

/-- The record of a clock frame (45_clock_debug.md R224). -/
def debugRecord (cfg : Config) (p : List Byte) (s : State) : DebugRecord where
  messageSequenceNumber := s.frameCount
  seconds := BitVec.ofNat 64 (clockSeconds p)
  microseconds := BitVec.ofNat 64 (clockMicroseconds p)
  combinedSeconds := combinedSeconds cfg (clockSeconds p) (clockMicroseconds p)

/-- CLOCK (45_clock_debug.md R221). -/
def clock (cfg : Config) (p : List Byte) (s : State) : State :=
  raiseIfShort p (appendDebug (debugRecord cfg p s) s)

/-- CLOCK (45_clock_debug.md R221). -/
def execClock (p : List Byte) (s : State) : Host.Outcome State Fault Refusal :=
  runFrame config (clock config p) s

end Sys2Proof.Machine
end

