-- ==== Sys2Proof/Machine/Controller.lean ====
section
/-! DEFINITION. The Controller Decoder: autosequence time, throttle points, generic channel words
(44_controller.md). -/

namespace Sys2Proof.Machine

/-- The seconds value of an autosequence integer, one rounding (44_controller.md R183). -/
def autoseqSeconds (cfg : Config) (v : Int) : F64 := F64.ofIntDiv v cfg.autoseqDivisor

/-- The largest of the 1028 current sensor times (44_controller.md R186). -/
def maxSensorTime (s : State) : F64 := F64.maxBank s.stime

/-- The duplicate path or the change path for a decoded time (44_controller.md R184 to R187). -/
def autoseqTime (t : F64) (s : State) : State :=
  if s.asValid && F64.eq t s.asTime then putDup (s.asDup + 1) s
  else putAutoseq (maxSensorTime s) t (putDup 0 s)

/-- AUTOSEQ (44_controller.md R181). -/
def autoseq (cfg : Config) (p : List Byte) (s : State) : State :=
  if p.length = 0 then raise .short s
  else autoseqTime (autoseqSeconds cfg (autoseqInt cfg p)) s

/-- The throttle point of four payload bytes at an offset: a big-endian time, then the setpoint (30_encoding.md R89). -/
def throttlePointAt (cfg : Config) (p : List Byte) (off : Nat) : ThrottlePoint :=
  ⟨be16At p off, setpointAt cfg p (off + 2)⟩

/-- The sentinel: a first pair with time 0 empties the sequence (44_controller.md R191). -/
def throttleSentinel (p : List Byte) (s : State) : State :=
  if be16At p 0 = 0 then clearThr s else s

/-- The second pair, present when L is at least 8 (44_controller.md R192). -/
def throttlePair2 (cfg : Config) (p : List Byte) (s : State) : State :=
  if 8 ≤ p.length then appendThr (throttlePointAt cfg p 4) s else s

/-- THROTTLE (44_controller.md R190). -/
def throttle (cfg : Config) (p : List Byte) (s : State) : State :=
  if p.length < 4 then raise .short s
  else throttlePair2 cfg p (appendThr (throttlePointAt cfg p 0) (throttleSentinel p s))

/-- Write(c, ch, w): a channel outside the bank is dropped with RANGE (44_controller.md R207). -/
def ctrlWrite (c ch : Nat) (w : Word) (s : State) : State :=
  if ch < nChan then putCtrl c ch w s else raise (.range c ch) s

/-- GENERIC for a controller and channel (44_controller.md R202, R206, R209). -/
def genericAt (cfg : Config) (c ch : Nat) (p : List Byte) (s : State) : State :=
  if p.length = 8 then
    ctrlWrite c (ch + 1) (ctrlWordAt cfg p 4) (ctrlWrite c ch (ctrlWordAt cfg p 0) s)
  else if 4 ≤ p.length then ctrlWrite c ch (ctrlWordAt cfg p 0) s
  else raise .short s

/-- GENERIC, entered with at least one payload byte (44_controller.md R200, R202). -/
def generic (cfg : Config) (a : Addr) (p : List Byte) (s : State) : State :=
  genericAt cfg (controllerOf cfg a.toNat) (channelOf cfg a.toNat) p s

/-- The generic branch of the sub-dispatch: an empty payload is ignored (44_controller.md R180, R209). -/
def genericOrIgnored (cfg : Config) (a : Addr) (p : List Byte) (s : State) : State :=
  if 0 < p.length then generic cfg a p s else raise .ignored s

/-- CTRL, the sub-dispatch on the address (44_controller.md R180). -/
def ctrl (cfg : Config) (a : Addr) (p : List Byte) (s : State) : State :=
  if a.toNat = cfg.autoseqAddr then autoseq cfg p s
  else if a.toNat = cfg.throttleAddr then throttle cfg p s
  else genericOrIgnored cfg a p s

/-- AUTOSEQ (44_controller.md R181). -/
def execAutoseq (p : List Byte) (s : State) : Host.Outcome State Fault Refusal :=
  runFrame config (autoseq config p) s

/-- THROTTLE (44_controller.md R190). -/
def execThrottle (p : List Byte) (s : State) : Host.Outcome State Fault Refusal :=
  runFrame config (throttle config p) s

/-- CTRL.I32 (44_controller.md R203, R206, R209). The kind I32 is an annotation: the word is stored as bits
(10_state.md R33). -/
def execCtrlI32 (a : Addr) (p : List Byte) (s : State) : Host.Outcome State Fault Refusal :=
  runFrame config (genericOrIgnored config a p) s

/-- CTRL.U32 (44_controller.md R204, R206, R209). -/
def execCtrlU32 (a : Addr) (p : List Byte) (s : State) : Host.Outcome State Fault Refusal :=
  runFrame config (genericOrIgnored config a p) s

/-- CTRL.F32 (44_controller.md R205, R206, R207, R209). -/
def execCtrlF32 (a : Addr) (p : List Byte) (s : State) : Host.Outcome State Fault Refusal :=
  runFrame config (genericOrIgnored config a p) s

end Sys2Proof.Machine
end

