-- ==== Sys2Proof/Machine/Sensor.lean ====
section
/-! DEFINITION. The Sensor Multiplexed Decoder and the timestamp unwrapper (41_sensor.md). -/

namespace Sys2Proof.Machine

/-- RawTime(cnt) = cnt x 10 / 2^18 (41_sensor.md R133); SENSOR_TS_BITS low bits of the counter are used (R11). -/
def rawTime (cfg : Config) (cnt : BitVec 21) : F64 :=
  F64.nearest false (cnt.toNat % 2 ^ cfg.sensorTsBits * cfg.tickNum) cfg.tickDen

/-- RC_ACC after the rollover compare: one wrap period more when the raw time fell (41_sensor.md R136). -/
def rolloverAcc (cfg : Config) (raw last acc : F64) : F64 :=
  if F64.lt raw last then F64.add acc (F64.ofNat cfg.wrapPeriod) else acc

/-- The stored time of a group: (raw + RC_ACC) / 8000 (41_sensor.md R137). -/
def storedTime (cfg : Config) (raw acc : F64) : F64 :=
  F64.div (F64.add raw acc) (F64.ofNat cfg.timeDivisor)

/-- GROUP: rollover compare, then the writes of one sample (41_sensor.md R136). -/
def group (cfg : Config) (sid : Nat) (value : Word) (raw : F64) (s : State) : State :=
  putSample sid value (storedTime cfg raw (rolloverAcc cfg raw s.rcLast s.rcAcc))
    (putRollover raw (rolloverAcc cfg raw s.rcLast s.rcAcc) s)

/-- Group 2, present when L > 4 (41_sensor.md R134). -/
def sensorGroup2 (cfg : Config) (p : List Byte) (raw : F64) (s : State) : State :=
  if 4 < p.length then group cfg (subAddressAt p 2) (sensorValueAt p 3) raw s else s

/-- Group 3, present when L > 7 (41_sensor.md R134). -/
def sensorGroup3 (cfg : Config) (p : List Byte) (raw : F64) (s : State) : State :=
  if 7 < p.length then group cfg (subAddressAt p 5) (sensorValueAt p 6) raw s else s

/-- The groups of a frame in order, all with the frame's raw timestamp (41_sensor.md R130, R139). -/
def sensorGroups (cfg : Config) (a : Addr) (p : List Byte) (raw : F64) (s : State) : State :=
  sensorGroup3 cfg p raw (sensorGroup2 cfg p raw (group cfg a.toNat (sensorValueAt p 0) raw s))

/-- SENSOR: up to three groups by payload length (41_sensor.md R130, R140). -/
def sensor (cfg : Config) (a : Addr) (cnt : BitVec 21) (p : List Byte) (s : State) : State :=
  if p.length < 2 then raise .short s else sensorGroups cfg a p (rawTime cfg cnt) s

/-- SENSOR (41_sensor.md R130). -/
def execSensor (a : Addr) (cnt : BitVec 21) (p : List Byte) (s : State) : Host.Outcome State Fault Refusal :=
  runFrame config (sensor config a cnt p) s

end Sys2Proof.Machine
end

