-- ==== Sys2Proof/Machine/Valve.lean ====
section
/-! DEFINITION. The Valve Bank Decoder, three instances (42_valve.md). -/

namespace Sys2Proof.Machine

/-- What a computed channel 1 of zero does: the engine decoder stores it, the other two keep the previous value
(42_valve.md R154). -/
def keepsZero : ValveBank → Bool
  | .eng => false
  | .pri => true
  | .prop => true

/-- Channel 1 (42_valve.md R151, R154). -/
def valveChannel1 (bank : ValveBank) (f1 : Byte) (s : State) : State :=
  if keepsZero bank && rev8 f1 == 0 then s else putValve bank 1 (rev8 f1) s

/-- Channels from index j on take the payload bytes in order (42_valve.md R156). -/
def valveBytes (bank : ValveBank) : Nat → List Byte → State → State
  | _, [], s => s
  | j, b :: bs, s => valveBytes bank (j + 1) bs (putValve bank j b s)

/-- The decoder common to the three instances (42_valve.md R157, R158, R159). -/
def valve (bank : ValveBank) (f1 f2 : Byte) (p : List Byte) (s : State) : State :=
  raiseIfShort p (valveBytes bank 3 p (putValve bank 2 (rev8 f2) (valveChannel1 bank f1 s)))

/-- VALVE.ENG (42_valve.md R157). -/
def execValveEng (f1 f2 : Byte) (p : List Byte) (s : State) : Host.Outcome State Fault Refusal :=
  runFrame config (valve .eng f1 f2 p) s

/-- VALVE.PRI (42_valve.md R158). -/
def execValvePri (f1 f2 : Byte) (p : List Byte) (s : State) : Host.Outcome State Fault Refusal :=
  runFrame config (valve .pri f1 f2 p) s

/-- VALVE.PROP (42_valve.md R159). -/
def execValveProp (f1 f2 : Byte) (p : List Byte) (s : State) : Host.Outcome State Fault Refusal :=
  runFrame config (valve .prop f1 f2 p) s

end Sys2Proof.Machine
end

