-- ==== Sys2Proof/Machine/Router.lean ====
section
/-! DEFINITION. The Dispatcher on raw frames: the priority list of 40_dispatch.md R112, the Node State Tracker it
enters, and the cascade with its bound of one re-entry (R118, R119). -/

namespace Sys2Proof.Machine

/-- The node an address names (43_node_state.md R170). -/
def nodeIndexOf (cfg : Config) (n : Nat) : Option Nat :=
  if n = cfg.node0Addr then some 0
  else if n = cfg.node1Addr then some 1
  else if n = cfg.node2Addr then some 2
  else none

/-- The update of node n from payload byte 0 (43_node_state.md R171 to R174). -/
def nodeUpdate (n : Nat) (p : List Byte) (s : State) : State :=
  match p with
  | [] => raise .short s
  | b :: _ =>
    match vehicleState b.toNat with
    | some v => putNode n v s
    | none => raise (.badEnum b) s

/-- NODE, the handler common to the node-state addresses (43_node_state.md R171). -/
def node (cfg : Config) (a : Addr) (p : List Byte) (s : State) : State :=
  match nodeIndexOf cfg a.toNat with
  | none => raise .ignored s
  | some n => nodeUpdate n p s

/-- The handlers other than the node tracker that the Dispatcher can invoke (40_dispatch.md R112). -/
inductive Handler where
  | clock | valveEng | valvePri | valveProp | sensor | ctrl
  deriving DecidableEq, Repr

/-- Where the priority list leads: a handler, the node tracker with its cascade, or nowhere. -/
inductive Route where
  | handler (h : Handler)
  | nodeThenCascade
  | nowhere
  deriving DecidableEq, Repr

/-- The priority list of the Dispatcher, step 5 eligible at depth 0 only (40_dispatch.md R112, R119). -/
def route (cfg : Config) (a : Addr) (depth : Nat) : Route :=
  let n := a.toNat
  if n = cfg.clockAddr then .handler .clock
  else if n = cfg.valveEngAddr then .handler .valveEng
  else if n = cfg.valvePriAddr then .handler .valvePri
  else if n = cfg.valvePropAddr then .handler .valveProp
  else if cfg.nodeAbove < n ∧ n < cfg.nodeBelow ∧ depth = 0 then .nodeThenCascade
  else if cfg.sensorAbove < n ∧ n < cfg.sensorBelow then .handler .sensor
  else if cfg.ctrlAbove < n then .handler .ctrl
  else .nowhere

/-- A handler's work on a raw frame. -/
def runHandler (cfg : Config) (h : Handler) (f : RawFrame) (s : State) : State :=
  let id := f.identifier
  match h with
  | .clock => clock cfg f.payload s
  | .valveEng => valve .eng (valveField1 id) (valveField2 cfg id) f.payload s
  | .valvePri => valve .pri (valveField1 id) (valveField2 cfg id) f.payload s
  | .valveProp => valve .prop (valveField1 id) (valveField2 cfg id) f.payload s
  | .sensor => sensor cfg (addrOf id) (cntOf id) f.payload s
  | .ctrl => ctrl cfg (addrOf id) f.payload s

/-- CASCADE: Dispatch(a, f, 1). Step 5 is not eligible and step 8 raises nothing (40_dispatch.md R118, R119, R122). -/
def cascade (cfg : Config) (f : RawFrame) (s : State) : State :=
  match route cfg (addrOf f.identifier) 1 with
  | .handler h => runHandler cfg h f s
  | .nodeThenCascade => s
  | .nowhere => s

/-- DISPATCH: Dispatch(a, f, 0) (40_dispatch.md R112). -/
def dispatch (cfg : Config) (f : RawFrame) (s : State) : State :=
  match route cfg (addrOf f.identifier) 0 with
  | .handler h => runHandler cfg h f s
  | .nodeThenCascade => cascade cfg f (node cfg (addrOf f.identifier) f.payload s)
  | .nowhere => raise .ignored s

/-- The Node State Tracker and its cascade for the canonical frame of an address: the second pass reads nothing
that the first did not (40_dispatch.md R118; assumption log 13). -/
def nodeThenCascade (cfg : Config) (a : Addr) (p : List Byte) (s : State) : State :=
  cascade cfg ⟨plainId a.toNat, p⟩ (node cfg a p s)

end Sys2Proof.Machine
end

