-- ==== Sys2Proof/Machine/Node.lean ====
section
/-! DEFINITION. The node-state classes (43_node_state.md) and the two classes that decode nothing
(40_dispatch.md R120, R121). -/

namespace Sys2Proof.Machine

/-- NODE.514 (43_node_state.md R172). -/
def execNode514 (p : List Byte) (s : State) : Host.Outcome State Fault Refusal :=
  runFrame config (nodeThenCascade config (BitVec.ofNat 11 config.node0Addr) p) s

/-- NODE.515 (43_node_state.md R172). -/
def execNode515 (p : List Byte) (s : State) : Host.Outcome State Fault Refusal :=
  runFrame config (nodeThenCascade config (BitVec.ofNat 11 config.node1Addr) p) s

/-- NODE.520 (43_node_state.md R172). -/
def execNode520 (p : List Byte) (s : State) : Host.Outcome State Fault Refusal :=
  runFrame config (nodeThenCascade config (BitVec.ofNat 11 config.node2Addr) p) s

/-- NODE.NOP (40_dispatch.md R121, 43_node_state.md R175). -/
def execNodeNop (a : Addr) (p : List Byte) (s : State) : Host.Outcome State Fault Refusal :=
  runFrame config (nodeThenCascade config a p) s

/-- IGNORE: neither the address nor the payload is looked at (40_dispatch.md R120). -/
def execIgnore (_ : Addr) (_ : List Byte) (s : State) : Host.Outcome State Fault Refusal :=
  runFrame config (raise .ignored) s

end Sys2Proof.Machine
end

