-- ==== Sys2Proof/Machine/Dispatch.lean ====
section
/-! DEFINITION. exec: one arm per constructor of Instr, each one direct call of its meaning. -/

namespace Sys2Proof.Machine

def exec (i : Instr) (s : State) : Host.Outcome State Fault Refusal :=
  match i with
  | .ignore a p => Sys2Proof.Machine.execIgnore a p s
  | .sensor a cnt p => Sys2Proof.Machine.execSensor a cnt p s
  | .clock p => Sys2Proof.Machine.execClock p s
  | .nodeNop a p => Sys2Proof.Machine.execNodeNop a p s
  | .node514 p => Sys2Proof.Machine.execNode514 p s
  | .node515 p => Sys2Proof.Machine.execNode515 p s
  | .node520 p => Sys2Proof.Machine.execNode520 p s
  | .valveEng f1 f2 p => Sys2Proof.Machine.execValveEng f1 f2 p s
  | .valvePri f1 f2 p => Sys2Proof.Machine.execValvePri f1 f2 p s
  | .valveProp f1 f2 p => Sys2Proof.Machine.execValveProp f1 f2 p s
  | .autoseq p => Sys2Proof.Machine.execAutoseq p s
  | .throttle p => Sys2Proof.Machine.execThrottle p s
  | .ctrlI32 a p => Sys2Proof.Machine.execCtrlI32 a p s
  | .ctrlU32 a p => Sys2Proof.Machine.execCtrlU32 a p s
  | .ctrlF32 a p => Sys2Proof.Machine.execCtrlF32 a p s

end Sys2Proof.Machine
end

