-- ==== Sys2Proof/Machine/HostPort.lean ====
section
/-! DEFINITION. The transaction-level interface: Reset, PushFrame and Read (70_reset_and_hazards.md R267). -/

namespace Sys2Proof.Machine

/-- What a decode error becomes: the interface refuses the frame (20_memory.md R69). -/
def refusalOf : DecodeError → Refusal
  | .payloadTooLong => .payloadTooLong

/-- PushFrame: one step on one frame (40_dispatch.md R111, 70_reset_and_hazards.md R267). -/
def pushFrame (f : RawFrame) (s : State) : Host.Outcome State Fault Refusal :=
  match decode f with
  | .ok i => exec i s
  | .error e => .refused (refusalOf e)

/-- Reset: a new session (70_reset_and_hazards.md R260, R263). -/
def resetSession (s : State) : State := resetMachine config s

/-- One operation of the host. -/
def perform (op : HostOp) (s : State) : Host.Outcome State Fault Refusal :=
  match op with
  | .frame f => pushFrame f s
  | .reset => .next (resetSession s)

/-- An element of the store, as the host names it (10_state.md R47, R48). -/
inductive Element where
  | sval (i : Nat) | stime (i : Nat) | sledger (i : Nat) | rcLast | rcAcc
  | vpri (j : Nat) | veng (j : Nat) | vprop (j : Nat) | node (n : Nat) | cbank (c ch : Nat)
  | asValid | asTime | asDup | asLedger | thr | dbgLedger | frameCount
  deriving DecidableEq, Repr

/-- The value a host read returns. -/
inductive ReadValue where
  | word (w : Word)
  | f64 (x : F64)
  | byte (b : Byte)
  | vehicle (v : VehicleState)
  | bit (b : Bool)
  | count (n : BitVec 64)
  | samples (l : List SensorRecord)
  | autosequence (l : List AutoseqRecord)
  | throttle (l : List ThrottlePoint)
  | debug (l : List DebugRecord)
  deriving DecidableEq, Repr

/-- Read(element, index): the current value, none for an index outside the bank; no side effect
(70_reset_and_hazards.md R267, 20_memory.md R72). -/
def hostRead (e : Element) (s : State) : Option ReadValue :=
  match e with
  | .sval i => s.sval[i]?.map .word
  | .stime i => s.stime[i]?.map .f64
  | .sledger i => s.sledger[i]?.map .samples
  | .rcLast => some (.f64 s.rcLast)
  | .rcAcc => some (.f64 s.rcAcc)
  | .vpri j => s.vpri[j]?.map .byte
  | .veng j => s.veng[j]?.map .byte
  | .vprop j => s.vprop[j]?.map .byte
  | .node n => s.node[n]?.map .vehicle
  | .cbank c ch => (s.cbank[c]?.bind fun row => row[ch]?).map .word
  | .asValid => some (.bit s.asValid)
  | .asTime => some (.f64 s.asTime)
  | .asDup => some (.count s.asDup)
  | .asLedger => some (.autosequence s.asLedger)
  | .thr => some (.throttle s.thr)
  | .dbgLedger => some (.debug s.dbgLedger)
  | .frameCount => some (.count s.frameCount)

end Sys2Proof.Machine
end

