-- ==== Sys2Proof/Machine/Step.lean ====
section
/-! DEFINITION. One step of the machine: the next operation of the host is performed; with none the block waits. -/

namespace Sys2Proof.Machine

/-- One step (40_dispatch.md R111, 70_reset_and_hazards.md R267; waiting: 60_exceptions.md R241, R248;
assumption log 1). -/
def step (s : State) : Host.Outcome State Fault Refusal :=
  match s.inbox with
  | [] => .next s
  | op :: rest => perform op { s with inbox := rest }

/-- The table word's frame is the host's next operation (assumption log 2). -/
def State.withFetchWord (s : State) (nbits w : Nat) : State :=
  { s with inbox := .frame (frameOfWord nbits w) :: s.inbox }

end Sys2Proof.Machine
end

