-- ==== Sys2Proof/Safety.lean ====
section
/-! DEFINITION. What counts as a sound store and what a frame may write: the invariants of 10_state.md R22, R45,
R138 and 60_exceptions.md R247, and the write sets of 10_state.md R46. -/

namespace Sys2Proof.Machine

/-- The parts of the store that R46 assigns to frame classes. -/
inductive Component where
  | sensorBanks | rolloverClock | vpri | veng | vprop | node0 | node1 | node2 | cbank
  | autosequence | throttlePoints | debugLedger
  deriving DecidableEq, Repr

/-- A part of the store is the same in two states. -/
def Unchanged (c : Component) (s t : State) : Prop :=
  match c with
  | .sensorBanks => t.sval = s.sval ∧ t.stime = s.stime ∧ t.sledger = s.sledger
  | .rolloverClock => t.rcLast = s.rcLast ∧ t.rcAcc = s.rcAcc
  | .vpri => t.vpri = s.vpri
  | .veng => t.veng = s.veng
  | .vprop => t.vprop = s.vprop
  | .node0 => t.node[0] = s.node[0]
  | .node1 => t.node[1] = s.node[1]
  | .node2 => t.node[2] = s.node[2]
  | .cbank => t.cbank = s.cbank
  | .autosequence =>
    t.asValid = s.asValid ∧ t.asTime = s.asTime ∧ t.asDup = s.asDup ∧ t.asLedger = s.asLedger
  | .throttlePoints => t.thr = s.thr
  | .debugLedger => t.dbgLedger = s.dbgLedger

/-- The write set of a frame class beside FRAME_COUNT (10_state.md R46). -/
def writeSet : FrameClass → List Component
  | .ignore => []
  | .nodeNop => []
  | .sensor => [.sensorBanks, .rolloverClock]
  | .valveEng => [.veng]
  | .valvePri => [.vpri]
  | .valveProp => [.vprop]
  | .node514 => [.node0]
  | .node515 => [.node1]
  | .node520 => [.node2]
  | .autoseq => [.autosequence]
  | .throttle => [.throttlePoints]
  | .ctrlI32 => [.cbank]
  | .ctrlU32 => [.cbank]
  | .ctrlF32 => [.cbank]
  | .clock => [.debugLedger]

/-- Every part of the store outside a list, and the host's queue, is the same in two states. -/
def UnchangedOutside (l : List Component) (s t : State) : Prop :=
  t.inbox = s.inbox ∧ ∀ c, c ∉ l → Unchanged c s t

/-- Sensor values are 16-bit values zero-extended (10_state.md R22, 41_sensor.md R135). -/
def SensorValuesSmall (s : State) : Prop :=
  ∀ i : Fin nSensor, s.sval[i].toNat < 65536 ∧ ∀ r ∈ s.sledger[i], r.value.toNat < 65536

/-- Each sensor's current value and time are those of the last record of its ledger, and the reset values while
the ledger is empty (41_sensor.md R138, 70_reset_and_hazards.md R279). -/
def LedgersMatchBanks (s : State) : Prop :=
  ∀ i : Fin nSensor,
    match s.sledger[i].getLast? with
    | none => s.sval[i] = 0 ∧ s.stime[i] = 0
    | some r => s.sval[i] = r.value ∧ s.stime[i] = r.time

/-- No two consecutive records of the autosequence ledger have equal times (10_state.md R45 (c)), and the last
record's time is AS_TIME. -/
def AutoseqLedgerSound (s : State) : Prop :=
  (∀ (k : Nat) (r r' : AutoseqRecord), s.asLedger[k]? = some r → s.asLedger[k + 1]? = some r' →
    F64.eq r.autosequenceTime r'.autosequenceTime = false) ∧
  ∀ r, s.asLedger.getLast? = some r → s.asValid = true ∧ r.autosequenceTime = s.asTime

/-- A number that is neither NaN nor infinite nor negative zero (60_exceptions.md R247). -/
def OrdinaryF64 (x : F64) : Bool := F64.isFinite x && x != 0x8000000000000000#64

/-- An ordinary number that is not negative. -/
def NonnegF64 (x : F64) : Bool := F64.isFinite x && !F64.isNeg x

/-- No exceptional value in an f64 register or ledger (60_exceptions.md R247). -/
def F64RegistersOrdinary (s : State) : Prop :=
  NonnegF64 s.rcLast = true ∧ NonnegF64 s.rcAcc = true ∧ OrdinaryF64 s.asTime = true ∧
  (∀ i : Fin nSensor, NonnegF64 s.stime[i] = true ∧ ∀ r ∈ s.sledger[i], NonnegF64 r.time = true) ∧
  (∀ r ∈ s.asLedger, NonnegF64 r.maxKnownSensorTimestamp = true ∧ OrdinaryF64 r.autosequenceTime = true) ∧
  ∀ r ∈ s.dbgLedger, NonnegF64 r.combinedSeconds = true

/-- The rollover registers hold a raw time of an 18-bit counter and exactly `k` wrap periods (10_state.md R26, R27,
41_sensor.md R142). -/
def RolloverAt (k : Nat) (s : State) : Prop :=
  ∃ c : BitVec 21, c.toNat < 2 ^ 18 ∧ s.rcLast = rawTime config c ∧ s.rcAcc = F64.ofNat (config.wrapPeriod * k)

/-- If the host's next operation is a frame of class SENSOR, its counter has at most 18 bits (41_sensor.md R142). -/
def NextCounterBelow18Bits (s : State) : Prop :=
  ∀ (f : RawFrame) (rest : List HostOp), s.inbox = .frame f :: rest →
    classOf config (addrOf f.identifier) = .sensor → (cntOf f.identifier).toNat < 2 ^ 18

/-- The corrected time raw + RC_ACC of the most recent sensor group, exactly (41_sensor.md R142). -/
def correctedTime (s : State) : Rat := F64.toRat s.rcLast + F64.toRat s.rcAcc

end Sys2Proof.Machine
end

