-- ==== Sys2Proof/Certificates/Slice0/Obligations.lean ====
section
/-! DEFINITION. The statements for the provers. Expected values are written here from the rules, in `Claims`, with
plain arithmetic on payload bytes, not with the handlers' own helpers. -/

namespace Sys2Proof.Claims

open Sys2Proof.Machine

/-- Payload byte k as a number, 0 when it is missing. -/
def byteAt (p : List Byte) (k : Nat) : Nat := (p.getD k 0).toNat

/-- Two payload bytes, the first more significant (20_memory.md R62). -/
def be16 (p : List Byte) (k : Nat) : Nat := 256 * byteAt p k + byteAt p (k + 1)

/-- Four payload bytes, the first most significant (20_memory.md R62). -/
def be32 (p : List Byte) (k : Nat) : Nat := 65536 * be16 p k + be16 p (k + 2)

/-- Four payload bytes, the first least significant, a missing one 0 (45_clock_debug.md R222). -/
def le32 (p : List Byte) (k : Nat) : Nat :=
  byteAt p k + 256 * byteAt p (k + 1) + 65536 * byteAt p (k + 2) + 16777216 * byteAt p (k + 3)

/-- A whole payload as a two's complement integer, the first byte most significant (44_controller.md R182). -/
def signedBigEndian (p : List Byte) : Int :=
  let u := (List.range p.length).foldl (fun acc k => 256 * acc + byteAt p k) 0
  if 128 ≤ byteAt p 0 then (u : Int) - 256 ^ p.length else u

/-- The store after a frame that decodes nothing: a result code, and the frame counted. -/
def counted (r : Result) (s : State) : State := { s with result := r, frameCount := s.frameCount + 1 }

/-- The frame of a class that writes the parts in `l`: all else is kept, and the frame counted. -/
def Kept (l : List Component) (s t : State) : Prop :=
  UnchangedOutside l s t ∧ t.frameCount = s.frameCount + 1

/-- The number x is a nearest binary64 number to q, and of two different equally near ones it has an even last bit
(00_scope.md R15). -/
def IsNearest (x : F64) (q : Rat) : Prop :=
  ∀ y : F64, F64.isFinite y = true →
    |F64.toRat x - q| ≤ |F64.toRat y - q| ∧
    (|F64.toRat y - q| = |F64.toRat x - q| → F64.toRat y = F64.toRat x ∨ x.getLsbD 0 = false)

/-- The pattern x is the rounding of q: nearest it while |q| is below 2^1024 - 2^970, half a step above the largest
binary64 number, and an infinity of its sign from there on (00_scope.md R15, IEEE 754). -/
def IsRounding (x : F64) (q : Rat) : Prop :=
  (F64.isFinite x = true ↔ |q| < 2 ^ 1024 - 2 ^ 970) ∧
  (F64.isFinite x = true → IsNearest x q) ∧
  (F64.isFinite x = false → x = F64.inf (decide (q < 0)))

/-- The samples of a sensor frame: index and value of each group present, in order (41_sensor.md R130). -/
def samples (a : Addr) (p : List Byte) : List (Nat × Word) :=
  [(a.toNat, BitVec.ofNat 32 (be16 p 0))] ++
  (if 4 < p.length then [(byteAt p 2, BitVec.ofNat 32 (be16 p 3))] else []) ++
  (if 7 < p.length then [(byteAt p 5, BitVec.ofNat 32 (be16 p 6))] else [])

/-- The values that the samples of a frame give one sensor, in order. -/
def valuesFor (i : Nat) (l : List (Nat × Word)) : List Word :=
  (l.filter fun x => x.1 == i).map fun x => x.2

/-- The instruction of a node's report (43_node_state.md R170). -/
def nodeInstr (n : Fin 3) (p : List Byte) : Instr :=
  match n with
  | 0 => .node514 p
  | 1 => .node515 p
  | 2 => .node520 p

/-- The part of the store that is a node's state. -/
def nodeComponent (n : Fin 3) : Component :=
  match n with
  | 0 => .node0
  | 1 => .node1
  | 2 => .node2

/-- The valve banks of a store. -/
def bankOf (b : ValveBank) (s : State) : Vector Byte nValve :=
  match b with
  | .eng => s.veng
  | .pri => s.vpri
  | .prop => s.vprop

/-- What a valve frame leaves in its bank at the indices 2 and above and at 0 (42_valve.md R155, R156, R160). -/
def ValveBankAfter (b : ValveBank) (f2 : Byte) (p : List Byte) (s t : State) : Prop :=
  (bankOf b t)[2] = f2.reverse ∧
  (∀ (i : Nat) (h : i < p.length) (h' : 3 + i < nValve), (bankOf b t)[3 + i] = p[i]) ∧
  ∀ (j : Nat) (h : j < nValve), j = 0 ∨ 3 + p.length ≤ j → (bankOf b t)[j] = (bankOf b s)[j]

/-- SHORT below eight payload bytes (60_exceptions.md R232). -/
def shortBelow8 (p : List Byte) : Result := if p.length < 8 then .short else .done

/-- Every word of the controller bank after a generic frame of at least four bytes: the channel that the address
1000 + 100 c + ch names takes the first word, the next channel, when it exists, the second of an eight-byte frame
(44_controller.md R200, R202, R206, R207). -/
def CtrlWordsAfter (a : Addr) (p : List Byte) (s t : State) : Prop :=
  ∀ (c : Fin nCtrl) (ch : Fin nChan),
    t.cbank[c][ch] =
      if a.toNat = 1000 + 100 * c.val + ch.val then BitVec.ofNat 32 (be32 p 0)
      else if p.length = 8 ∧ 0 < ch.val ∧ a.toNat + 1 = 1000 + 100 * c.val + ch.val then
        BitVec.ofNat 32 (be32 p 4)
      else s.cbank[c][ch]

/-- The controller whose hundred is nearest, a tie going to the even hundred (44_controller.md R200, R201). -/
def nearestController (n : Nat) : Nat :=
  if n % 100 < 50 then n / 100 - 10
  else if 50 < n % 100 then n / 100 + 1 - 10
  else if n / 100 % 2 = 0 then n / 100 - 10 else n / 100 + 1 - 10

/-- The result of a CTRL.F32 frame of at least four bytes: RANGE with the first dropped write (44_controller.md
R207, R210). -/
def rangeResult (n L : Nat) : Result :=
  if 50 ≤ n % 100 then .range (nearestController n) (n % 100)
  else if L = 8 ∧ n % 100 = 49 then .range (nearestController n) 50
  else .done

/-- What a generic class does at every payload length, and the kind it intends (44_controller.md R202, R206): its own
at eight bytes, F32 at four to seven, none below; `r` is the result of a frame of at least four bytes. -/
def GenericFrame (mk : Addr → List Byte → Instr) (kind : Kind) (r : Nat → Nat → Result) : Prop :=
  ∀ (a : Addr) (p : List Byte) (s : State), (mk a p).wellFormed = true →
    intendedKind config a.toNat p.length =
      (if p.length = 8 then some kind else if 4 ≤ p.length then some .f32 else none) ∧
    (p.length = 0 → exec (mk a p) s = .next (counted .ignored s)) ∧
    (1 ≤ p.length ∧ p.length ≤ 3 → exec (mk a p) s = .next (counted .short s)) ∧
    (4 ≤ p.length → ∃ t, exec (mk a p) s = .next t ∧ CtrlWordsAfter a p s t ∧
      t.result = r a.toNat p.length ∧ Kept [.cbank] s t)

/-- The result code of every class (60_exceptions.md R236). -/
def expectedResult : Instr → Result
  | .ignore _ _ => .ignored
  | .nodeNop _ _ => .ignored
  | .sensor _ _ p => if p.length < 2 then .short else .done
  | .clock p => shortBelow8 p
  | .valveEng _ _ p => shortBelow8 p
  | .valvePri _ _ p => shortBelow8 p
  | .valveProp _ _ p => shortBelow8 p
  | .node514 p => nodeResult p
  | .node515 p => nodeResult p
  | .node520 p => nodeResult p
  | .autoseq p => if p.length = 0 then .short else .done
  | .throttle p => if p.length < 4 then .short else .done
  | .ctrlI32 _ p => ctrlResult p .done
  | .ctrlU32 _ p => ctrlResult p .done
  | .ctrlF32 a p => ctrlResult p (rangeResult a.toNat p.length)
where
  nodeResult (p : List Byte) : Result :=
    match p with
    | [] => .short
    | b :: _ => if b.toNat ≤ 12 then .done else .badEnum b
  ctrlResult (p : List Byte) (r : Result) : Result :=
    if p.length = 0 then .ignored else if p.length < 4 then .short else r

/-- The classes whose frames leave the banks as after once when presented twice (20_memory.md R73). -/
def idempotentClass : FrameClass → Bool
  | .valveEng => true
  | .valvePri => true
  | .valveProp => true
  | .node514 => true
  | .node515 => true
  | .node520 => true
  | .ctrlI32 => true
  | .ctrlU32 => true
  | .ctrlF32 => true
  | .ignore => true
  | .nodeNop => true
  | .sensor => false
  | .clock => false
  | .autoseq => false
  | .throttle => false

end Sys2Proof.Claims

section Encoding

open Sys2Proof Sys2Proof.Machine Sys2Proof.Claims

/-- 40_dispatch.md R110: the logical address is id AND 0x7FF, and id[31:11] never influences it. -/
def Obligations.AddressIsLowElevenBits : Prop :=
  (∀ id : Word, (addrOf id).toNat = (id &&& 0x7FF#32).toNat) ∧
  (∀ id id' : Word, id &&& 0x7FF#32 = id' &&& 0x7FF#32 → addrOf id = addrOf id') ∧
  addrOf 0#32 = 0#11 ∧ addrOf 0xFFFFFFFF#32 = 2047#11 ∧ addrOf 49420#32 = 268#11

/-- Frames written out from 30_encoding.md R82 to R94 and 95_test_vectors.md decode to the instructions they
stand for. -/
def Obligations.SampleFramesDecode : Prop :=
  decode ⟨0x08000064, [0x12, 0x34]⟩ = .ok (.sensor 100 0x10000 [0x12, 0x34]) ∧
  decode ⟨0x04812223, [9, 8, 7]⟩ = .ok (.valveProp 0x12 0x48 [9, 8, 7]) ∧
  decode ⟨0x0000C10C, [5, 0, 0, 0, 0, 0, 0, 0]⟩ = .ok (.clock [5, 0, 0, 0, 0, 0, 0, 0]) ∧
  decode ⟨0x000004B3, [0x3F, 0x80, 0, 0]⟩ = .ok (.ctrlF32 1203 [0x3F, 0x80, 0, 0]) ∧
  decode ⟨0xFFFFF202, [5]⟩ = .ok (.node514 [5])

/-- Decode of encode is the identity on every well-formed instruction (30_encoding.md R80 to R94). -/
def Obligations.DecodeOfEncodeIsIdentity : Prop :=
  ∀ i : Instr, i.wellFormed = true → decode (encode i) = .ok i

/-- Encode of decode gives the frame back, the identifier bits its class does not read cleared (30_encoding.md R82,
R83, R84), and what is decoded is well-formed. -/
def Obligations.EncodeOfDecodeKeepsReadBits : Prop :=
  ∀ (f : RawFrame) (i : Instr), decode f = .ok i →
    i.wellFormed = true ∧ encode i = ⟨f.identifier &&& readMask i.frameClass, f.payload⟩

/-- 30_encoding.md R101: of the 145 table rows exactly one selects an identifier, and it names the class the decoder
takes. -/
def Obligations.OpcodeTableSelectsOneRow : Prop :=
  opcodeTable.length = 145 ∧
  ∀ id : Word, (opcodeTable.filter fun r => r.selects id).map (fun r => r.cls) = [classOf config (addrOf id)]

/-- 30_encoding.md R96, 20_memory.md R69: every frame of at most eight payload bytes is accepted, a longer one is
refused by name. -/
def Obligations.ExactlyFramesUpToEightBytesDecode : Prop :=
  ∀ f : RawFrame,
    (f.payload.length ≤ 8 → ∃ i, decode f = .ok i ∧ i.wellFormed = true ∧ i.payload = f.payload) ∧
    (8 < f.payload.length → decode f = .error .payloadTooLong)

/-- 30_encoding.md R83, R84: two frames that agree on their payload and on the identifier bits their class reads
decode alike. -/
def Obligations.UnreadIdentifierBitsHaveNoEffect : Prop :=
  ∀ f g : RawFrame, f.payload = g.payload →
    f.identifier &&& readMask (classOf config (addrOf f.identifier)) =
      g.identifier &&& readMask (classOf config (addrOf f.identifier)) →
    decode f = decode g

/-- 30_encoding.md R83: a valve instruction's fields are id[19:12] and id[27:20], bit by bit. -/
def Obligations.ValveFieldsComeFromIdentifier : Prop :=
  ∀ (id : Word) (p : List Byte), p.length ≤ 8 →
    ∃ f1 f2 : Byte,
      (∀ k, k < 8 → f1.getLsbD k = id.getLsbD (12 + k) ∧ f2.getLsbD k = id.getLsbD (20 + k)) ∧
      ((addrOf id).toNat = 546 → decode ⟨id, p⟩ = .ok (.valveEng f1 f2 p)) ∧
      ((addrOf id).toNat = 552 → decode ⟨id, p⟩ = .ok (.valvePri f1 f2 p)) ∧
      ((addrOf id).toNat = 547 → decode ⟨id, p⟩ = .ok (.valveProp f1 f2 p))

end Encoding

section Dispatch

open Sys2Proof Sys2Proof.Machine Sys2Proof.Claims

/-- 40_dispatch.md R112: running the decoded instruction is running the Dispatcher's priority list on the raw frame,
cascade included, between the two ends of the step. -/
def Obligations.ExecIsThePriorityDispatcher : Prop :=
  ∀ (f : RawFrame) (i : Instr) (s : State), decode f = .ok i →
    exec i s = .next (countFrame (dispatch config f (beginStep s)))

/-- 40_dispatch.md R119: the second pass of the cascade finds no handler and changes nothing. -/
def Obligations.SecondPassOfCascadeChangesNothing : Prop :=
  ∀ (f : RawFrame) (s : State), 510 < (addrOf f.identifier).toNat → (addrOf f.identifier).toNat < 530 →
    cascade config f s = s

/-- When the host's next operation is a frame that decodes to an instruction, the step is exec of it on the state
without that operation (the model's queue: assumption log 1). -/
def Obligations.StepRunsTheDecodedFrame : Prop :=
  ∀ (s : State) (f : RawFrame) (rest : List HostOp) (i : Instr),
    s.inbox = .frame f :: rest → decode f = .ok i → step s = exec i { s with inbox := rest }

/-- With nothing from the host the block waits and nothing changes (60_exceptions.md R241, R248; log 1). -/
def Obligations.StepWithoutInputWaits : Prop :=
  ∀ s : State, s.inbox = [] → step s = .next s

/-- 70_reset_and_hazards.md R260: nothing survives a reset but the host's own position in its stream (logs 5, 10). -/
def Obligations.StepOnResetLeavesTheResetStore : Prop :=
  ∀ (s : State) (rest : List HostOp), s.inbox = .reset :: rest →
    step s = .next { State.reset with inbox := rest }

/-- 20_memory.md R69: a frame of more than eight payload bytes is refused. -/
def Obligations.StepRefusesOversizedFrame : Prop :=
  ∀ (s : State) (f : RawFrame) (rest : List HostOp), s.inbox = .frame f :: rest → 8 < f.payload.length →
    step s = .refused .payloadTooLong

/-- A table word placed as the next frame runs as the instruction the decoder reads from it (log 2). -/
def Obligations.TableWordRunsAsNextFrame : Prop :=
  ∀ (s : State) (nbits w : Nat) (i : Instr), decodeTableWord nbits w = some i →
    step (s.withFetchWord nbits w) = exec i s

/-- 40_dispatch.md R111: every frame is counted once, and no frame touches the host's queue. -/
def Obligations.EveryFrameIsCountedOnce : Prop :=
  ∀ (i : Instr) (s : State), ∃ t, exec i s = .next t ∧ t.frameCount = s.frameCount + 1 ∧ t.inbox = s.inbox

/-- 10_state.md R46: a class writes nothing outside its write set and FRAME_COUNT. -/
def Obligations.WriteSetsAreRespected : Prop :=
  ∀ (i : Instr) (s t : State), i.wellFormed = true → exec i s = .next t →
    UnchangedOutside (writeSet i.frameClass) s t

/-- 60_exceptions.md R236: which class returns which result code, and the recorded value. -/
def Obligations.ResultCodesFollowTheTable : Prop :=
  ∀ (i : Instr) (s t : State), i.wellFormed = true → exec i s = .next t → t.result = expectedResult i

/-- 20_memory.md R73: the second presentation of such a frame changes only FRAME_COUNT. -/
def Obligations.BankFramesAreIdempotent : Prop :=
  ∀ (i : Instr) (s t : State), i.wellFormed = true → idempotentClass i.frameClass = true →
    exec i s = .next t → exec i t = .next { t with frameCount := t.frameCount + 1 }

end Dispatch

section Handlers

open Sys2Proof Sys2Proof.Machine Sys2Proof.Claims

/-- 10_state.md R48: the reset value of every element. -/
def Obligations.ResetStoreHoldsTheListedValues : Prop :=
  (∀ i : Fin nSensor, State.reset.sval[i] = 0 ∧ State.reset.stime[i] = 0 ∧ State.reset.sledger[i] = []) ∧
  State.reset.rcLast = 0 ∧ State.reset.rcAcc = 0 ∧
  (∀ j : Fin nValve, State.reset.vpri[j] = 0 ∧ State.reset.veng[j] = 0 ∧ State.reset.vprop[j] = 0) ∧
  (∀ n : Fin nNode, State.reset.node[n] = .setup) ∧
  (∀ (c : Fin nCtrl) (ch : Fin nChan), State.reset.cbank[c][ch] = 0) ∧
  State.reset.asValid = false ∧ State.reset.asTime = 0 ∧ State.reset.asDup = 0 ∧
  State.reset.asLedger = [] ∧ State.reset.thr = [] ∧ State.reset.dbgLedger = [] ∧
  State.reset.frameCount = 0

/-- 40_dispatch.md R120: a frame of an IGNORE address decodes to IGNORE whatever else it holds, and IGNORE changes
nothing but FRAME_COUNT and is reported as ignored; the counter and the code are decisions D26 and D30 of the spec
(logs 3, 11). -/
def Obligations.IgnoreFrameOnlyCounts : Prop :=
  (∀ (a : Addr) (p : List Byte) (s : State), exec (.ignore a p) s = .next (counted .ignored s)) ∧
  ∀ f : RawFrame, f.payload.length ≤ 8 →
    (∃ n, (addrOf f.identifier).toNat = n ∧ (n ≤ 50 ∨ (427 ≤ n ∧ n ≤ 510) ∨ (530 ≤ n ∧ n ≤ 545) ∨
      (548 ≤ n ∧ n ≤ 551) ∨ (553 ≤ n ∧ n ≤ 1000))) →
    decode f = .ok (.ignore (addrOf f.identifier) f.payload)

/-- 40_dispatch.md R121: a NODE.NOP frame changes nothing but FRAME_COUNT and is reported as ignored. -/
def Obligations.NodeNopFrameOnlyCounts : Prop :=
  ∀ (a : Addr) (p : List Byte) (s : State), (Instr.nodeNop a p).wellFormed = true →
    exec (.nodeNop a p) s = .next (counted .ignored s)

/-- 41_sensor.md R130: below two payload bytes nothing is decoded; otherwise every sensor gets the samples that name
it, in order, all with the one corrected time of the frame, and the rollover registers follow R136. -/
def Obligations.SensorFrameDecodesItsGroups : Prop :=
  ∀ (a : Addr) (cnt : BitVec 21) (p : List Byte) (s : State), (Instr.sensor a cnt p).wellFormed = true →
    (p.length < 2 → exec (.sensor a cnt p) s = .next (counted .short s)) ∧
    (2 ≤ p.length → ∃ t, exec (.sensor a cnt p) s = .next t ∧ t.result = .done ∧
      t.rcLast = F64.nearest false (cnt.toNat * 10) (2 ^ 18) ∧
      t.rcAcc = (if F64.lt t.rcLast s.rcLast then F64.add s.rcAcc (F64.ofNat 10) else s.rcAcc) ∧
      (∀ i : Fin nSensor,
        t.sledger[i] = s.sledger[i] ++ (valuesFor i.val (samples a p)).map (fun v =>
          SensorRecord.mk (F64.div (F64.add t.rcLast t.rcAcc) (F64.ofNat 8000)) v) ∧
        t.sval[i] = ((valuesFor i.val (samples a p)).getLast?).getD s.sval[i] ∧
        t.stime[i] = (if valuesFor i.val (samples a p) = [] then s.stime[i]
          else F64.div (F64.add t.rcLast t.rcAcc) (F64.ofNat 8000))) ∧
      Kept [.sensorBanks, .rolloverClock] s t)

/-- 41_sensor.md R133: the raw timestamp is exactly cnt x 10 / 2^18, below 80 and never negative. -/
def Obligations.RawTimestampIsExact : Prop :=
  ∀ cnt : BitVec 21, F64.isFinite (rawTime config cnt) = true ∧ F64.isNeg (rawTime config cnt) = false ∧
    F64.toRat (rawTime config cnt) = (cnt.toNat : Rat) * 10 / 262144

/-- 41_sensor.md R136, R141: after a group with counter c, whatever its upper three bits, a frame is a wrap exactly
when its counter is below c, and an equal one is none. -/
def Obligations.WrapIsACounterThatFell : Prop :=
  ∀ (a : Addr) (c cnt : BitVec 21) (p : List Byte) (s : State), (Instr.sensor a cnt p).wellFormed = true →
    2 ≤ p.length → s.rcLast = rawTime config c →
    ∃ t, exec (.sensor a cnt p) s = .next t ∧ t.rcLast = rawTime config cnt ∧
      t.rcAcc = (if cnt.toNat < c.toNat then F64.add s.rcAcc (F64.ofNat 10) else s.rcAcc)

/-- 41_sensor.md R142, one frame: with 18-bit counters and k wrap periods so far, a SENSOR frame leaves k periods, or
k + 1 when the raw time fell, exactly 10 more; the corrected time does not decrease. -/
def Obligations.SensorFrameKeepsCorrectedTime : Prop :=
  ∀ (a : Addr) (cnt : BitVec 21) (p : List Byte) (s : State) (k : Nat), (Instr.sensor a cnt p).wellFormed = true →
    2 ≤ p.length → cnt.toNat < 2 ^ 18 → k < 2 ^ 32 → RolloverAt k s →
    ∃ t, exec (.sensor a cnt p) s = .next t ∧ correctedTime s ≤ correctedTime t ∧
      RolloverAt (if F64.toRat t.rcLast < F64.toRat s.rcLast then k + 1 else k) t ∧
      F64.toRat t.rcAcc = F64.toRat s.rcAcc + (if F64.toRat t.rcLast < F64.toRat s.rcLast then 10 else 0)

/-- 41_sensor.md R142, every step of a stream whose sensor counters have at most 18 bits: the rollover registers keep
an 18-bit raw time and a whole number of wrap periods, at most one more than before, so that the lemma applies to the
next step again while fewer than 2^32 periods have passed; and the corrected time does not decrease unless the host
resets. -/
def Obligations.CorrectedTimeNeverDecreases : Prop :=
  ∀ (s t : State) (k : Nat), RolloverAt k s → k < 2 ^ 32 → NextCounterBelow18Bits s → step s = .next t →
    ∃ k', k' ≤ k + 1 ∧ RolloverAt k' t ∧
      ((∀ rest, s.inbox ≠ .reset :: rest) →
        k ≤ k' ∧ correctedTime s ≤ correctedTime t ∧
        (k' = k + 1 ↔ F64.toRat t.rcLast < F64.toRat s.rcLast))

/-- 42_valve.md R153: bit i of rev8 v is bit 7 - i of v, rev8 is its own inverse, and the listed values. -/
def Obligations.BitReversalSwapsTheEnds : Prop :=
  (∀ (v : Byte) (i : Nat), i < 8 → (rev8 v).getLsbD i = v.getLsbD (7 - i)) ∧
  (∀ v : Byte, rev8 (rev8 v) = v) ∧
  rev8 0x00 = 0x00 ∧ rev8 0x01 = 0x80 ∧ rev8 0x80 = 0x01 ∧ rev8 0x02 = 0x40 ∧ rev8 0x0F = 0xF0 ∧
  rev8 0xA5 = 0xA5 ∧ rev8 0x12 = 0x48 ∧ rev8 0xFF = 0xFF

/-- 42_valve.md R157: the engine bank after a frame; channel 1 is written always, zero included. -/
def Obligations.ValveEngFrameWritesItsBank : Prop :=
  ∀ (f1 f2 : Byte) (p : List Byte) (s : State), (Instr.valveEng f1 f2 p).wellFormed = true →
    ∃ t, exec (.valveEng f1 f2 p) s = .next t ∧ t.veng[1] = f1.reverse ∧
      ValveBankAfter .eng f2 p s t ∧ t.result = shortBelow8 p ∧ Kept [.veng] s t

/-- 42_valve.md R158: the primary bank after a frame; a computed channel 1 of zero keeps the previous value. -/
def Obligations.ValvePriFrameWritesItsBank : Prop :=
  ∀ (f1 f2 : Byte) (p : List Byte) (s : State), (Instr.valvePri f1 f2 p).wellFormed = true →
    ∃ t, exec (.valvePri f1 f2 p) s = .next t ∧
      t.vpri[1] = (if f1.reverse = 0 then s.vpri[1] else f1.reverse) ∧
      ValveBankAfter .pri f2 p s t ∧ t.result = shortBelow8 p ∧ Kept [.vpri] s t

/-- 42_valve.md R159: the prop bank after a frame; a computed channel 1 of zero keeps the previous value. -/
def Obligations.ValvePropFrameWritesItsBank : Prop :=
  ∀ (f1 f2 : Byte) (p : List Byte) (s : State), (Instr.valveProp f1 f2 p).wellFormed = true →
    ∃ t, exec (.valveProp f1 f2 p) s = .next t ∧
      t.vprop[1] = (if f1.reverse = 0 then s.vprop[1] else f1.reverse) ∧
      ValveBankAfter .prop f2 p s t ∧ t.result = shortBelow8 p ∧ Kept [.vprop] s t

/-- 42_valve.md R154: a computed channel 1 of zero is stored by the engine decoder and keeps the previous value in
the primary and prop decoders; any other value is stored by all three. -/
def Obligations.ChannelOneZeroAsymmetry : Prop :=
  ∀ (f1 f2 : Byte) (p : List Byte) (s : State), p.length ≤ 8 →
    ∃ e q r, exec (.valveEng f1 f2 p) s = .next e ∧ exec (.valvePri f1 f2 p) s = .next q ∧
      exec (.valveProp f1 f2 p) s = .next r ∧ e.veng[1] = rev8 f1 ∧
      (rev8 f1 = 0 → q.vpri[1] = s.vpri[1] ∧ r.vprop[1] = s.vprop[1]) ∧
      (rev8 f1 ≠ 0 → q.vpri[1] = rev8 f1 ∧ r.vprop[1] = rev8 f1)

/-- 10_state.md R31: members and indices correspond, Setup 0 to Fire 12, and no index above 12 names a member. -/
def Obligations.VehicleStatesAreNumberedInOrder : Prop :=
  (List.range 13).map vehicleState =
    [some .setup, some .passive, some .standby, some .test, some .abort, some .vent, some .offNominal,
      some .hiPressArm, some .hiPressPressurized, some .tankPressArm, some .tankPressPressurized,
      some .fireArm, some .fire] ∧
  (∀ v, vehicleState (vehicleIndex v) = some v) ∧ ∀ n, 12 < n → vehicleState n = none

/-- 43_node_state.md R172: a report with a legal index sets the node its address names to that member, whatever the
previous state was, and bytes 1 to 7 have no effect. -/
def Obligations.NodeReportSetsItsNode : Prop :=
  ∀ (n : Fin 3) (b : Byte) (p : List Byte) (s : State), (nodeInstr n (b :: p)).wellFormed = true →
    b.toNat ≤ 12 →
    ∃ t, exec (nodeInstr n (b :: p)) s = .next t ∧ vehicleIndex t.node[n] = b.toNat ∧ t.result = .done ∧
      Kept [nodeComponent n] s t

/-- 43_node_state.md R173: an index of 13 to 255 changes nothing but FRAME_COUNT; result BADENUM with the index
(the counter and the code are decisions D26 and D30 of the spec; logs 3, 11). -/
def Obligations.NodeReportOutOfRangeKeepsState : Prop :=
  ∀ (n : Fin 3) (b : Byte) (p : List Byte) (s : State), (nodeInstr n (b :: p)).wellFormed = true →
    13 ≤ b.toNat → exec (nodeInstr n (b :: p)) s = .next (counted (.badEnum b) s)

/-- 43_node_state.md R174: an empty report changes nothing but FRAME_COUNT; result SHORT. -/
def Obligations.EmptyNodeReportIsShort : Prop :=
  ∀ (n : Fin 3) (s : State), exec (nodeInstr n []) s = .next (counted .short s)

/-- 44_controller.md R181: an empty payload is SHORT; otherwise the decoded time, equal to the previous frame's, is
counted as a duplicate, and any other is appended with the largest sensor time and resets the count. -/
def Obligations.AutoseqFrameCountsOrAppends : Prop :=
  ∀ (p : List Byte) (s : State), (Instr.autoseq p).wellFormed = true →
    (p.length = 0 → exec (.autoseq p) s = .next (counted .short s)) ∧
    (1 ≤ p.length →
      (s.asValid = true ∧ F64.eq (F64.ofIntDiv (signedBigEndian p) 1000000) s.asTime = true →
        exec (.autoseq p) s = .next { counted .done s with asDup := s.asDup + 1 }) ∧
      (¬ (s.asValid = true ∧ F64.eq (F64.ofIntDiv (signedBigEndian p) 1000000) s.asTime = true) →
        exec (.autoseq p) s = .next { counted .done s with
          asDup := 0
          asLedger := s.asLedger ++
            [⟨maxSensorTime s, F64.ofIntDiv (signedBigEndian p) 1000000⟩]
          asTime := F64.ofIntDiv (signedBigEndian p) 1000000
          asValid := true }))

/-- 44_controller.md R186: the recorded sensor time is one of the 1028 current ones and none exceeds it. -/
def Obligations.RecordedSensorTimeIsTheLargest : Prop :=
  ∀ s : State, (∀ i : Fin nSensor, NonnegF64 s.stime[i] = true) →
    (∃ i : Fin nSensor, maxSensorTime s = s.stime[i]) ∧
    ∀ i : Fin nSensor, F64.toRat s.stime[i] ≤ F64.toRat (maxSensorTime s)

/-- 44_controller.md R184, the rule's own range: for |v| at most 2^53 equal times mean equal integers. Expected to
fail: near 2^53 neighbouring integers round to one number (assumption log 15). -/
def Obligations.EqualTimesMeanEqualIntegersUpTo2Pow53 : Prop :=
  ∀ v w : Int, v.natAbs ≤ 2 ^ 53 → w.natAbs ≤ 2 ^ 53 →
    (F64.eq (autoseqSeconds config v) (autoseqSeconds config w) = true ↔ v = w)

/-- 44_controller.md R184 with the range on which it holds: times below 2^33 seconds (assumption log 15). -/
def Obligations.EqualTimesMeanEqualIntegersBelow2Pow33Seconds : Prop :=
  ∀ v w : Int, v.natAbs < 2 ^ 33 * 1000000 → w.natAbs < 2 ^ 33 * 1000000 →
    (F64.eq (autoseqSeconds config v) (autoseqSeconds config w) = true ↔ v = w)

/-- 44_controller.md R190: below four bytes nothing happens; otherwise a first time of 0 empties THR, the first pair is
appended, and at eight bytes the second (decision D20 of the spec: the limit of four bytes, the second pair; D17: the
order of the setpoints; log 11). -/
def Obligations.ThrottleFrameAppendsItsPairs : Prop :=
  ∀ (p : List Byte) (s : State), (Instr.throttle p).wellFormed = true →
    (p.length < 4 → exec (.throttle p) s = .next (counted .short s)) ∧
    (4 ≤ p.length → exec (.throttle p) s = .next { counted .done s with
      thr := (if be16 p 0 = 0 then [] else s.thr) ++
        [⟨BitVec.ofNat 16 (be16 p 0), BitVec.ofNat 16 (be16 p 2)⟩] ++
        (if p.length = 8 then [⟨BitVec.ofNat 16 (be16 p 4), BitVec.ofNat 16 (be16 p 6)⟩] else []) })

/-- 44_controller.md R200: controller id and channel index of every controller address, the rounded address a whole
hundred in 1000..2000, and which addresses name a channel of the bank. -/
def Obligations.ControllerAddressArithmetic : Prop :=
  ∀ n : Nat, 1001 ≤ n → n ≤ 2047 →
    channelOf config n = n % 100 ∧ roundAddress config n = 1000 + 100 * controllerOf config n ∧
    controllerOf config n ≤ 10 ∧
    (n % 100 ≤ 49 → roundAddress config n + n % 100 = n ∧
      n = 1000 + 100 * controllerOf config n + channelOf config n) ∧
    (51 ≤ n % 100 → roundAddress config n + n % 100 = n + 100)

/-- 44_controller.md R203: CTRL.I32 at every payload length (decisions D17, D21, D23 of the spec; logs 9, 11). -/
def Obligations.CtrlI32FrameWritesItsWords : Prop :=
  GenericFrame .ctrlI32 .i32 fun _ _ => .done

/-- 44_controller.md R204: CTRL.U32 at every payload length (decisions D17, D21, D23 of the spec; logs 9, 11). -/
def Obligations.CtrlU32FrameWritesItsWords : Prop :=
  GenericFrame .ctrlU32 .u32 fun _ _ => .done

/-- 44_controller.md R205, R207: CTRL.F32 at every payload length, dropped writes included (decisions D17, D21, D22, D23
of the spec; logs 9, 11). -/
def Obligations.CtrlF32FrameWritesItsWords : Prop :=
  GenericFrame .ctrlF32 .f32 rangeResult

/-- 45_clock_debug.md R221: one record is appended whatever the length, numbered with the frames before it, its two
words little-endian with missing bytes as absent high bytes, the combined time rounded twice. -/
def Obligations.ClockFrameAppendsItsRecord : Prop :=
  ∀ (p : List Byte) (s : State), (Instr.clock p).wellFormed = true →
    exec (.clock p) s = .next { counted (shortBelow8 p) s with
      dbgLedger := s.dbgLedger ++
        [⟨s.frameCount, BitVec.ofNat 64 (le32 p 0), BitVec.ofNat 64 (le32 p 4),
          F64.add (F64.ofNat (le32 p 0)) (F64.mul (F64.ofNat (le32 p 4)) 0x3EB0C6F7A0B5ED8D#64)⟩] }

/-- 70_reset_and_hazards.md R267, 20_memory.md R72: a read of any element returns its current value, and a read outside
a bank answers none. -/
def Obligations.HostReadsReturnCurrentValues : Prop :=
  ∀ s : State,
    (∀ i : Fin nSensor, hostRead (.sval i.val) s = some (.word s.sval[i]) ∧
      hostRead (.stime i.val) s = some (.f64 s.stime[i]) ∧
      hostRead (.sledger i.val) s = some (.samples s.sledger[i])) ∧
    hostRead .rcLast s = some (.f64 s.rcLast) ∧ hostRead .rcAcc s = some (.f64 s.rcAcc) ∧
    (∀ j : Fin nValve, hostRead (.vpri j.val) s = some (.byte s.vpri[j]) ∧
      hostRead (.veng j.val) s = some (.byte s.veng[j]) ∧ hostRead (.vprop j.val) s = some (.byte s.vprop[j])) ∧
    (∀ n : Fin nNode, hostRead (.node n.val) s = some (.vehicle s.node[n])) ∧
    (∀ (c : Fin nCtrl) (ch : Fin nChan), hostRead (.cbank c.val ch.val) s = some (.word s.cbank[c][ch])) ∧
    hostRead .asValid s = some (.bit s.asValid) ∧ hostRead .asTime s = some (.f64 s.asTime) ∧
    hostRead .asDup s = some (.count s.asDup) ∧ hostRead .asLedger s = some (.autosequence s.asLedger) ∧
    hostRead .thr s = some (.throttle s.thr) ∧ hostRead .dbgLedger s = some (.debug s.dbgLedger) ∧
    hostRead .frameCount s = some (.count s.frameCount) ∧
    (∀ k, nSensor ≤ k → hostRead (.sval k) s = none ∧ hostRead (.stime k) s = none ∧ hostRead (.sledger k) s = none) ∧
    (∀ k, nValve ≤ k → hostRead (.vpri k) s = none ∧ hostRead (.veng k) s = none ∧ hostRead (.vprop k) s = none) ∧
    (∀ k, nNode ≤ k → hostRead (.node k) s = none) ∧
    ∀ c ch, nCtrl ≤ c ∨ nChan ≤ ch → hostRead (.cbank c ch) s = none

end Handlers

section Invariants

open Sys2Proof Sys2Proof.Machine Sys2Proof.Claims

/-- 10_state.md R22: every step keeps sensor values below 65536. -/
def Obligations.StepKeepsSensorValuesSmall : Prop :=
  ∀ s t : State, SensorValuesSmall s → step s = .next t → SensorValuesSmall t

/-- 41_sensor.md R138: every step keeps each sensor's bank entry equal to its ledger's last record. -/
def Obligations.StepKeepsLedgersMatchingBanks : Prop :=
  ∀ s t : State, LedgersMatchBanks s → step s = .next t → LedgersMatchBanks t

/-- 10_state.md R45 (c): every step keeps the autosequence ledger free of equal neighbours. -/
def Obligations.StepKeepsAutoseqLedgerSound : Prop :=
  ∀ s t : State, AutoseqLedgerSound s → step s = .next t → AutoseqLedgerSound t

/-- 60_exceptions.md R247: no step puts a NaN, an infinity or a negative zero into an f64 register or ledger. -/
def Obligations.StepKeepsF64RegistersOrdinary : Prop :=
  ∀ s t : State, F64RegistersOrdinary s → step s = .next t → F64RegistersOrdinary t

/-- The reset store meets the four invariants and the rollover premise of 41_sensor.md R142. The reset values are
decision D28 of the spec (log 10). -/
def Obligations.ResetStoreIsSound : Prop :=
  SensorValuesSmall State.reset ∧ LedgersMatchBanks State.reset ∧ AutoseqLedgerSound State.reset ∧
  F64RegistersOrdinary State.reset ∧ RolloverAt 0 State.reset

/-- 10_state.md R25, R29, R34: the elements no frame writes keep their value across every frame. -/
def Obligations.NeverWrittenElementsKeepTheirValue : Prop :=
  ∀ (s t : State) (f : RawFrame) (rest : List HostOp), s.inbox = .frame f :: rest → step s = .next t →
    (∀ i : Fin nSensor, i.val = 268 ∨ 427 ≤ i.val →
      t.sval[i] = s.sval[i] ∧ t.stime[i] = s.stime[i] ∧ t.sledger[i] = s.sledger[i]) ∧
    (∀ j : Fin nValve, j.val = 0 ∨ 11 ≤ j.val →
      t.vpri[j] = s.vpri[j] ∧ t.veng[j] = s.veng[j] ∧ t.vprop[j] = s.vprop[j]) ∧
    t.cbank[0][0] = s.cbank[0][0] ∧ t.cbank[1][0] = s.cbank[1][0] ∧ t.cbank[10][49] = s.cbank[10][49]

/-- 70_reset_and_hazards.md R262: no frame shortens a sensor, autosequence or debug ledger, lowers RC_ACC, clears
AS_VALID, or brings a non-zero channel 1 of the primary or prop bank back to 0. -/
def Obligations.OnlyResetForgets : Prop :=
  ∀ (s t : State) (f : RawFrame) (rest : List HostOp), s.inbox = .frame f :: rest → step s = .next t →
    (∀ i : Fin nSensor, s.sledger[i] <+: t.sledger[i]) ∧
    s.asLedger <+: t.asLedger ∧ s.dbgLedger <+: t.dbgLedger ∧
    (F64RegistersOrdinary s → F64.toRat s.rcAcc ≤ F64.toRat t.rcAcc) ∧
    (s.asValid = true → t.asValid = true) ∧
    (s.vpri[1] ≠ 0 → t.vpri[1] ≠ 0) ∧ (s.vprop[1] ≠ 0 → t.vprop[1] ≠ 0)

end Invariants

section Arithmetic

open Sys2Proof Sys2Proof.Machine Sys2Proof.Claims

/-- 00_scope.md R15: RN(q) is a binary64 number nearest q, of two equally near the one with an even last bit, for
every q that is not too large, the largest binary64 number and all below it included; it carries the sign asked for. -/
def Obligations.NearestIsRoundToNearestEven : Prop :=
  ∀ (neg : Bool) (n d : Nat), 0 < d →
    IsRounding (F64.nearest neg n d) ((if neg then -(n : Rat) else n) / (d : Rat)) ∧
    F64.isNeg (F64.nearest neg n d) = neg ∧
    (n ≤ (2 ^ 53 - 1) * 2 ^ 971 * d → F64.isFinite (F64.nearest neg n d) = true)

/-- 00_scope.md R15: a sum, product or quotient of finite numbers is the exact one, rounded once to nearest, ties to
even. -/
def Obligations.ArithmeticIsCorrectlyRounded : Prop :=
  ∀ a b : F64, F64.isFinite a = true → F64.isFinite b = true →
    IsRounding (F64.add a b) (F64.toRat a + F64.toRat b) ∧
    IsRounding (F64.mul a b) (F64.toRat a * F64.toRat b) ∧
    (F64.toRat b ≠ 0 → IsRounding (F64.div a b) (F64.toRat a / F64.toRat b))

/-- 00_scope.md R15: on numbers the comparisons are those of the exact values, the two zeros equal; a NaN is neither
less than nor equal to anything; infinities lie beyond every number. -/
def Obligations.ComparisonsFollowTheExactOrder : Prop :=
  ∀ a b : F64,
    (F64.isFinite a = true → F64.isFinite b = true →
      (F64.lt a b = true ↔ F64.toRat a < F64.toRat b) ∧ (F64.eq a b = true ↔ F64.toRat a = F64.toRat b)) ∧
    (F64.isNaN a = true ∨ F64.isNaN b = true → F64.lt a b = false ∧ F64.eq a b = false) ∧
    (F64.isFinite a = true →
      F64.lt a (F64.inf false) = true ∧ F64.lt (F64.inf true) a = true ∧
      F64.lt (F64.inf false) a = false ∧ F64.lt a (F64.inf true) = false)

end Arithmetic
end

