-- ==== Sys2Proof/Laws/Decode.lean ====
section
/-! SUPPORT. Small lemmas of the address decoder, the address map at the default literals, and the identifier
builders. -/

namespace Sys2Proof

/-- The logical address as a number. -/
theorem addrOf_toNat (id : Word) : (addrOf id).toNat = id.toNat % 2048 := by
  simp [addrOf, BitVec.extractLsb'_toNat]

/-- A plain identifier of an address carries that address. -/
@[simp] theorem addrOf_plainId (a : Addr) : addrOf (plainId a.toNat) = a := by
  apply BitVec.eq_of_toNat_eq
  have := a.isLt
  rw [addrOf_toNat, plainId, BitVec.toNat_ofNat]
  omega

/-- A plain identifier of a number below 2048 carries that number. -/
theorem addrOf_plainId_toNat (n : Nat) (h : n < 2048) : (addrOf (plainId n)).toNat = n := by
  rw [addrOf_toNat, plainId, BitVec.toNat_ofNat]
  omega

/-- A sensor identifier carries its address. -/
@[simp] theorem addrOf_sensorId (a : Addr) (cnt : BitVec 21) : addrOf (sensorId a cnt) = a := by
  apply BitVec.eq_of_toNat_eq
  have := a.isLt
  rw [addrOf_toNat, sensorId, BitVec.toNat_append]
  rw [← Nat.shiftLeft_add_eq_or_of_lt a.isLt, Nat.shiftLeft_eq]
  omega

/-- A valve identifier carries its address. -/
theorem addrOf_valveId_toNat (n : Nat) (f1 f2 : Byte) (h : n < 2048) :
    (addrOf (valveId n f1 f2)).toNat = n := by
  have := f1.isLt
  have := f2.isLt
  rw [addrOf_toNat, valveId, BitVec.toNat_ofNat]
  omega

/-- The address map at the default literals (30_encoding.md R90). -/
theorem classOf_config (a : Addr) :
    classOf config a =
      if a.toNat = 268 then .clock
      else if a.toNat = 546 then .valveEng
      else if a.toNat = 552 then .valvePri
      else if a.toNat = 547 then .valveProp
      else if 510 < a.toNat ∧ a.toNat < 530 then
        if a.toNat = 514 then .node514 else if a.toNat = 515 then .node515
        else if a.toNat = 520 then .node520 else .nodeNop
      else if 50 < a.toNat ∧ a.toNat < 427 then .sensor
      else if 1000 < a.toNat then
        if a.toNat = 1100 then .autoseq
        else if a.toNat = 1506 then .throttle
        else if a.toNat = 1502 ∨ a.toNat = 1504 then .ctrlI32
        else if a.toNat % 100 = 14 ∨ a.toNat % 100 = 15 then .ctrlU32 else .ctrlF32
      else .ignore := by
  rfl

/-- The addresses of ignore (30_encoding.md R91, R92). -/
theorem classOf_ignore (a : Addr) (h : ignoreAddr a.toNat = true) : classOf config a = .ignore := by
  simp only [ignoreAddr, Bool.and_eq_true, Bool.or_eq_true, decide_eq_true_eq] at h
  rw [classOf_config, if_neg (by omega), if_neg (by omega), if_neg (by omega), if_neg (by omega), if_neg (by omega),
    if_neg (by omega), if_neg (by omega)]

/-- The addresses of sensor (30_encoding.md R91, R92). -/
theorem classOf_sensor (a : Addr) (h : sensorAddr a.toNat = true) : classOf config a = .sensor := by
  simp only [sensorAddr, Bool.and_eq_true, Bool.or_eq_true, decide_eq_true_eq] at h
  rw [classOf_config, if_neg (by omega), if_neg (by omega), if_neg (by omega), if_neg (by omega), if_neg (by omega),
    if_pos (by omega)]

/-- The addresses of nodeNop (30_encoding.md R91, R92). -/
theorem classOf_nodeNop (a : Addr) (h : nodeNopAddr a.toNat = true) : classOf config a = .nodeNop := by
  simp only [nodeNopAddr, Bool.and_eq_true, Bool.or_eq_true, decide_eq_true_eq] at h
  rw [classOf_config, if_neg (by omega), if_neg (by omega), if_neg (by omega), if_neg (by omega), if_pos (by omega),
    if_neg (by omega), if_neg (by omega), if_neg (by omega)]

/-- The addresses of ctrlI32 (30_encoding.md R91, R92). -/
theorem classOf_ctrlI32 (a : Addr) (h : ctrlI32Addr a.toNat = true) : classOf config a = .ctrlI32 := by
  simp only [ctrlI32Addr, Bool.or_eq_true, beq_iff_eq] at h
  rw [classOf_config, if_neg (by omega), if_neg (by omega), if_neg (by omega), if_neg (by omega), if_neg (by omega),
    if_neg (by omega), if_pos (by omega), if_neg (by omega), if_neg (by omega), if_pos (by omega)]

/-- The addresses of ctrlU32 (30_encoding.md R91, R92). -/
theorem classOf_ctrlU32 (a : Addr) (h : ctrlU32Addr a.toNat = true) : classOf config a = .ctrlU32 := by
  simp only [ctrlU32Addr, Bool.and_eq_true, Bool.or_eq_true, decide_eq_true_eq, beq_iff_eq] at h
  rw [classOf_config, if_neg (by omega), if_neg (by omega), if_neg (by omega), if_neg (by omega), if_neg (by omega),
    if_neg (by omega), if_pos (by omega), if_neg (by omega), if_neg (by omega), if_neg (by omega),
    if_pos (by omega)]

/-- The addresses of ctrlF32 (30_encoding.md R91, R92). -/
theorem classOf_ctrlF32 (a : Addr) (h : ctrlF32Addr a.toNat = true) : classOf config a = .ctrlF32 := by
  simp only [ctrlF32Addr, ctrlI32Addr, ctrlU32Addr, Bool.and_eq_true, Bool.not_eq_true',
    Bool.or_eq_false_iff, Bool.and_eq_false_iff, bne_iff_ne, ne_eq, beq_eq_false_iff_ne, decide_eq_true_eq,
    decide_eq_false_iff_not] at h
  rw [classOf_config, if_neg (by omega), if_neg (by omega), if_neg (by omega), if_neg (by omega), if_neg (by omega),
    if_neg (by omega), if_pos (by omega), if_neg (by omega), if_neg (by omega), if_neg (by omega),
    if_neg (by omega)]

end Sys2Proof
end

