-- ==== Sys2Proof/Laws/State.lean ====
section
/-! SUPPORT. One lemma per field per named update of the store: what the update does to the field. Later proofs
cite these and unfold no record update. The parentheses in `(rfl)` make simp rewrite with a lemma as an equation;
as a definitional unfolding the kernel would have to compare whole stores again. -/

namespace Sys2Proof.Machine

variable (s : State)

/-! ### beginStep -/

@[simp] theorem beginStep_sval : (beginStep s).sval = s.sval := (rfl)
@[simp] theorem beginStep_stime : (beginStep s).stime = s.stime := (rfl)
@[simp] theorem beginStep_sledger : (beginStep s).sledger = s.sledger := (rfl)
@[simp] theorem beginStep_rcLast : (beginStep s).rcLast = s.rcLast := (rfl)
@[simp] theorem beginStep_rcAcc : (beginStep s).rcAcc = s.rcAcc := (rfl)
@[simp] theorem beginStep_vpri : (beginStep s).vpri = s.vpri := (rfl)
@[simp] theorem beginStep_veng : (beginStep s).veng = s.veng := (rfl)
@[simp] theorem beginStep_vprop : (beginStep s).vprop = s.vprop := (rfl)
@[simp] theorem beginStep_node : (beginStep s).node = s.node := (rfl)
@[simp] theorem beginStep_cbank : (beginStep s).cbank = s.cbank := (rfl)
@[simp] theorem beginStep_asValid : (beginStep s).asValid = s.asValid := (rfl)
@[simp] theorem beginStep_asTime : (beginStep s).asTime = s.asTime := (rfl)
@[simp] theorem beginStep_asDup : (beginStep s).asDup = s.asDup := (rfl)
@[simp] theorem beginStep_asLedger : (beginStep s).asLedger = s.asLedger := (rfl)
@[simp] theorem beginStep_thr : (beginStep s).thr = s.thr := (rfl)
@[simp] theorem beginStep_dbgLedger : (beginStep s).dbgLedger = s.dbgLedger := (rfl)
@[simp] theorem beginStep_frameCount : (beginStep s).frameCount = s.frameCount := (rfl)
@[simp] theorem beginStep_result : (beginStep s).result = .done := (rfl)
@[simp] theorem beginStep_inbox : (beginStep s).inbox = s.inbox := (rfl)

/-! ### countFrame -/

@[simp] theorem countFrame_sval : (countFrame s).sval = s.sval := (rfl)
@[simp] theorem countFrame_stime : (countFrame s).stime = s.stime := (rfl)
@[simp] theorem countFrame_sledger : (countFrame s).sledger = s.sledger := (rfl)
@[simp] theorem countFrame_rcLast : (countFrame s).rcLast = s.rcLast := (rfl)
@[simp] theorem countFrame_rcAcc : (countFrame s).rcAcc = s.rcAcc := (rfl)
@[simp] theorem countFrame_vpri : (countFrame s).vpri = s.vpri := (rfl)
@[simp] theorem countFrame_veng : (countFrame s).veng = s.veng := (rfl)
@[simp] theorem countFrame_vprop : (countFrame s).vprop = s.vprop := (rfl)
@[simp] theorem countFrame_node : (countFrame s).node = s.node := (rfl)
@[simp] theorem countFrame_cbank : (countFrame s).cbank = s.cbank := (rfl)
@[simp] theorem countFrame_asValid : (countFrame s).asValid = s.asValid := (rfl)
@[simp] theorem countFrame_asTime : (countFrame s).asTime = s.asTime := (rfl)
@[simp] theorem countFrame_asDup : (countFrame s).asDup = s.asDup := (rfl)
@[simp] theorem countFrame_asLedger : (countFrame s).asLedger = s.asLedger := (rfl)
@[simp] theorem countFrame_thr : (countFrame s).thr = s.thr := (rfl)
@[simp] theorem countFrame_dbgLedger : (countFrame s).dbgLedger = s.dbgLedger := (rfl)
@[simp] theorem countFrame_frameCount : (countFrame s).frameCount = s.frameCount + 1 := (rfl)
@[simp] theorem countFrame_result : (countFrame s).result = s.result := (rfl)
@[simp] theorem countFrame_inbox : (countFrame s).inbox = s.inbox := (rfl)

/-! ### raise -/

@[simp] theorem raise_sval (r : Result) : (raise r s).sval = s.sval := (rfl)
@[simp] theorem raise_stime (r : Result) : (raise r s).stime = s.stime := (rfl)
@[simp] theorem raise_sledger (r : Result) : (raise r s).sledger = s.sledger := (rfl)
@[simp] theorem raise_rcLast (r : Result) : (raise r s).rcLast = s.rcLast := (rfl)
@[simp] theorem raise_rcAcc (r : Result) : (raise r s).rcAcc = s.rcAcc := (rfl)
@[simp] theorem raise_vpri (r : Result) : (raise r s).vpri = s.vpri := (rfl)
@[simp] theorem raise_veng (r : Result) : (raise r s).veng = s.veng := (rfl)
@[simp] theorem raise_vprop (r : Result) : (raise r s).vprop = s.vprop := (rfl)
@[simp] theorem raise_node (r : Result) : (raise r s).node = s.node := (rfl)
@[simp] theorem raise_cbank (r : Result) : (raise r s).cbank = s.cbank := (rfl)
@[simp] theorem raise_asValid (r : Result) : (raise r s).asValid = s.asValid := (rfl)
@[simp] theorem raise_asTime (r : Result) : (raise r s).asTime = s.asTime := (rfl)
@[simp] theorem raise_asDup (r : Result) : (raise r s).asDup = s.asDup := (rfl)
@[simp] theorem raise_asLedger (r : Result) : (raise r s).asLedger = s.asLedger := (rfl)
@[simp] theorem raise_thr (r : Result) : (raise r s).thr = s.thr := (rfl)
@[simp] theorem raise_dbgLedger (r : Result) : (raise r s).dbgLedger = s.dbgLedger := (rfl)
@[simp] theorem raise_frameCount (r : Result) : (raise r s).frameCount = s.frameCount := (rfl)
@[simp] theorem raise_result (r : Result) : (raise r s).result = s.result.join r := (rfl)
@[simp] theorem raise_inbox (r : Result) : (raise r s).inbox = s.inbox := (rfl)

/-! ### putSample -/

@[simp] theorem putSample_sval (sid : Nat) (value : Word) (t : F64) : (putSample sid value t s).sval = modifyAt s.sval sid fun _ => value := (rfl)
@[simp] theorem putSample_stime (sid : Nat) (value : Word) (t : F64) : (putSample sid value t s).stime = modifyAt s.stime sid fun _ => t := (rfl)
@[simp] theorem putSample_sledger (sid : Nat) (value : Word) (t : F64) : (putSample sid value t s).sledger = modifyAt s.sledger sid fun l => l ++ [⟨t, value⟩] := (rfl)
@[simp] theorem putSample_rcLast (sid : Nat) (value : Word) (t : F64) : (putSample sid value t s).rcLast = s.rcLast := (rfl)
@[simp] theorem putSample_rcAcc (sid : Nat) (value : Word) (t : F64) : (putSample sid value t s).rcAcc = s.rcAcc := (rfl)
@[simp] theorem putSample_vpri (sid : Nat) (value : Word) (t : F64) : (putSample sid value t s).vpri = s.vpri := (rfl)
@[simp] theorem putSample_veng (sid : Nat) (value : Word) (t : F64) : (putSample sid value t s).veng = s.veng := (rfl)
@[simp] theorem putSample_vprop (sid : Nat) (value : Word) (t : F64) : (putSample sid value t s).vprop = s.vprop := (rfl)
@[simp] theorem putSample_node (sid : Nat) (value : Word) (t : F64) : (putSample sid value t s).node = s.node := (rfl)
@[simp] theorem putSample_cbank (sid : Nat) (value : Word) (t : F64) : (putSample sid value t s).cbank = s.cbank := (rfl)
@[simp] theorem putSample_asValid (sid : Nat) (value : Word) (t : F64) : (putSample sid value t s).asValid = s.asValid := (rfl)
@[simp] theorem putSample_asTime (sid : Nat) (value : Word) (t : F64) : (putSample sid value t s).asTime = s.asTime := (rfl)
@[simp] theorem putSample_asDup (sid : Nat) (value : Word) (t : F64) : (putSample sid value t s).asDup = s.asDup := (rfl)
@[simp] theorem putSample_asLedger (sid : Nat) (value : Word) (t : F64) : (putSample sid value t s).asLedger = s.asLedger := (rfl)
@[simp] theorem putSample_thr (sid : Nat) (value : Word) (t : F64) : (putSample sid value t s).thr = s.thr := (rfl)
@[simp] theorem putSample_dbgLedger (sid : Nat) (value : Word) (t : F64) : (putSample sid value t s).dbgLedger = s.dbgLedger := (rfl)
@[simp] theorem putSample_frameCount (sid : Nat) (value : Word) (t : F64) : (putSample sid value t s).frameCount = s.frameCount := (rfl)
@[simp] theorem putSample_result (sid : Nat) (value : Word) (t : F64) : (putSample sid value t s).result = s.result := (rfl)
@[simp] theorem putSample_inbox (sid : Nat) (value : Word) (t : F64) : (putSample sid value t s).inbox = s.inbox := (rfl)

/-! ### putRollover -/

@[simp] theorem putRollover_sval (last acc : F64) : (putRollover last acc s).sval = s.sval := (rfl)
@[simp] theorem putRollover_stime (last acc : F64) : (putRollover last acc s).stime = s.stime := (rfl)
@[simp] theorem putRollover_sledger (last acc : F64) : (putRollover last acc s).sledger = s.sledger := (rfl)
@[simp] theorem putRollover_rcLast (last acc : F64) : (putRollover last acc s).rcLast = last := (rfl)
@[simp] theorem putRollover_rcAcc (last acc : F64) : (putRollover last acc s).rcAcc = acc := (rfl)
@[simp] theorem putRollover_vpri (last acc : F64) : (putRollover last acc s).vpri = s.vpri := (rfl)
@[simp] theorem putRollover_veng (last acc : F64) : (putRollover last acc s).veng = s.veng := (rfl)
@[simp] theorem putRollover_vprop (last acc : F64) : (putRollover last acc s).vprop = s.vprop := (rfl)
@[simp] theorem putRollover_node (last acc : F64) : (putRollover last acc s).node = s.node := (rfl)
@[simp] theorem putRollover_cbank (last acc : F64) : (putRollover last acc s).cbank = s.cbank := (rfl)
@[simp] theorem putRollover_asValid (last acc : F64) : (putRollover last acc s).asValid = s.asValid := (rfl)
@[simp] theorem putRollover_asTime (last acc : F64) : (putRollover last acc s).asTime = s.asTime := (rfl)
@[simp] theorem putRollover_asDup (last acc : F64) : (putRollover last acc s).asDup = s.asDup := (rfl)
@[simp] theorem putRollover_asLedger (last acc : F64) : (putRollover last acc s).asLedger = s.asLedger := (rfl)
@[simp] theorem putRollover_thr (last acc : F64) : (putRollover last acc s).thr = s.thr := (rfl)
@[simp] theorem putRollover_dbgLedger (last acc : F64) : (putRollover last acc s).dbgLedger = s.dbgLedger := (rfl)
@[simp] theorem putRollover_frameCount (last acc : F64) : (putRollover last acc s).frameCount = s.frameCount := (rfl)
@[simp] theorem putRollover_result (last acc : F64) : (putRollover last acc s).result = s.result := (rfl)
@[simp] theorem putRollover_inbox (last acc : F64) : (putRollover last acc s).inbox = s.inbox := (rfl)

/-! ### putNode -/

@[simp] theorem putNode_sval (n : Nat) (v : VehicleState) : (putNode n v s).sval = s.sval := (rfl)
@[simp] theorem putNode_stime (n : Nat) (v : VehicleState) : (putNode n v s).stime = s.stime := (rfl)
@[simp] theorem putNode_sledger (n : Nat) (v : VehicleState) : (putNode n v s).sledger = s.sledger := (rfl)
@[simp] theorem putNode_rcLast (n : Nat) (v : VehicleState) : (putNode n v s).rcLast = s.rcLast := (rfl)
@[simp] theorem putNode_rcAcc (n : Nat) (v : VehicleState) : (putNode n v s).rcAcc = s.rcAcc := (rfl)
@[simp] theorem putNode_vpri (n : Nat) (v : VehicleState) : (putNode n v s).vpri = s.vpri := (rfl)
@[simp] theorem putNode_veng (n : Nat) (v : VehicleState) : (putNode n v s).veng = s.veng := (rfl)
@[simp] theorem putNode_vprop (n : Nat) (v : VehicleState) : (putNode n v s).vprop = s.vprop := (rfl)
@[simp] theorem putNode_node (n : Nat) (v : VehicleState) : (putNode n v s).node = modifyAt s.node n fun _ => v := (rfl)
@[simp] theorem putNode_cbank (n : Nat) (v : VehicleState) : (putNode n v s).cbank = s.cbank := (rfl)
@[simp] theorem putNode_asValid (n : Nat) (v : VehicleState) : (putNode n v s).asValid = s.asValid := (rfl)
@[simp] theorem putNode_asTime (n : Nat) (v : VehicleState) : (putNode n v s).asTime = s.asTime := (rfl)
@[simp] theorem putNode_asDup (n : Nat) (v : VehicleState) : (putNode n v s).asDup = s.asDup := (rfl)
@[simp] theorem putNode_asLedger (n : Nat) (v : VehicleState) : (putNode n v s).asLedger = s.asLedger := (rfl)
@[simp] theorem putNode_thr (n : Nat) (v : VehicleState) : (putNode n v s).thr = s.thr := (rfl)
@[simp] theorem putNode_dbgLedger (n : Nat) (v : VehicleState) : (putNode n v s).dbgLedger = s.dbgLedger := (rfl)
@[simp] theorem putNode_frameCount (n : Nat) (v : VehicleState) : (putNode n v s).frameCount = s.frameCount := (rfl)
@[simp] theorem putNode_result (n : Nat) (v : VehicleState) : (putNode n v s).result = s.result := (rfl)
@[simp] theorem putNode_inbox (n : Nat) (v : VehicleState) : (putNode n v s).inbox = s.inbox := (rfl)

/-! ### putCtrl -/

@[simp] theorem putCtrl_sval (c ch : Nat) (w : Word) : (putCtrl c ch w s).sval = s.sval := (rfl)
@[simp] theorem putCtrl_stime (c ch : Nat) (w : Word) : (putCtrl c ch w s).stime = s.stime := (rfl)
@[simp] theorem putCtrl_sledger (c ch : Nat) (w : Word) : (putCtrl c ch w s).sledger = s.sledger := (rfl)
@[simp] theorem putCtrl_rcLast (c ch : Nat) (w : Word) : (putCtrl c ch w s).rcLast = s.rcLast := (rfl)
@[simp] theorem putCtrl_rcAcc (c ch : Nat) (w : Word) : (putCtrl c ch w s).rcAcc = s.rcAcc := (rfl)
@[simp] theorem putCtrl_vpri (c ch : Nat) (w : Word) : (putCtrl c ch w s).vpri = s.vpri := (rfl)
@[simp] theorem putCtrl_veng (c ch : Nat) (w : Word) : (putCtrl c ch w s).veng = s.veng := (rfl)
@[simp] theorem putCtrl_vprop (c ch : Nat) (w : Word) : (putCtrl c ch w s).vprop = s.vprop := (rfl)
@[simp] theorem putCtrl_node (c ch : Nat) (w : Word) : (putCtrl c ch w s).node = s.node := (rfl)
@[simp] theorem putCtrl_cbank (c ch : Nat) (w : Word) : (putCtrl c ch w s).cbank = modifyAt s.cbank c fun row => modifyAt row ch fun _ => w := (rfl)
@[simp] theorem putCtrl_asValid (c ch : Nat) (w : Word) : (putCtrl c ch w s).asValid = s.asValid := (rfl)
@[simp] theorem putCtrl_asTime (c ch : Nat) (w : Word) : (putCtrl c ch w s).asTime = s.asTime := (rfl)
@[simp] theorem putCtrl_asDup (c ch : Nat) (w : Word) : (putCtrl c ch w s).asDup = s.asDup := (rfl)
@[simp] theorem putCtrl_asLedger (c ch : Nat) (w : Word) : (putCtrl c ch w s).asLedger = s.asLedger := (rfl)
@[simp] theorem putCtrl_thr (c ch : Nat) (w : Word) : (putCtrl c ch w s).thr = s.thr := (rfl)
@[simp] theorem putCtrl_dbgLedger (c ch : Nat) (w : Word) : (putCtrl c ch w s).dbgLedger = s.dbgLedger := (rfl)
@[simp] theorem putCtrl_frameCount (c ch : Nat) (w : Word) : (putCtrl c ch w s).frameCount = s.frameCount := (rfl)
@[simp] theorem putCtrl_result (c ch : Nat) (w : Word) : (putCtrl c ch w s).result = s.result := (rfl)
@[simp] theorem putCtrl_inbox (c ch : Nat) (w : Word) : (putCtrl c ch w s).inbox = s.inbox := (rfl)

/-! ### putDup -/

@[simp] theorem putDup_sval (d : BitVec 64) : (putDup d s).sval = s.sval := (rfl)
@[simp] theorem putDup_stime (d : BitVec 64) : (putDup d s).stime = s.stime := (rfl)
@[simp] theorem putDup_sledger (d : BitVec 64) : (putDup d s).sledger = s.sledger := (rfl)
@[simp] theorem putDup_rcLast (d : BitVec 64) : (putDup d s).rcLast = s.rcLast := (rfl)
@[simp] theorem putDup_rcAcc (d : BitVec 64) : (putDup d s).rcAcc = s.rcAcc := (rfl)
@[simp] theorem putDup_vpri (d : BitVec 64) : (putDup d s).vpri = s.vpri := (rfl)
@[simp] theorem putDup_veng (d : BitVec 64) : (putDup d s).veng = s.veng := (rfl)
@[simp] theorem putDup_vprop (d : BitVec 64) : (putDup d s).vprop = s.vprop := (rfl)
@[simp] theorem putDup_node (d : BitVec 64) : (putDup d s).node = s.node := (rfl)
@[simp] theorem putDup_cbank (d : BitVec 64) : (putDup d s).cbank = s.cbank := (rfl)
@[simp] theorem putDup_asValid (d : BitVec 64) : (putDup d s).asValid = s.asValid := (rfl)
@[simp] theorem putDup_asTime (d : BitVec 64) : (putDup d s).asTime = s.asTime := (rfl)
@[simp] theorem putDup_asDup (d : BitVec 64) : (putDup d s).asDup = d := (rfl)
@[simp] theorem putDup_asLedger (d : BitVec 64) : (putDup d s).asLedger = s.asLedger := (rfl)
@[simp] theorem putDup_thr (d : BitVec 64) : (putDup d s).thr = s.thr := (rfl)
@[simp] theorem putDup_dbgLedger (d : BitVec 64) : (putDup d s).dbgLedger = s.dbgLedger := (rfl)
@[simp] theorem putDup_frameCount (d : BitVec 64) : (putDup d s).frameCount = s.frameCount := (rfl)
@[simp] theorem putDup_result (d : BitVec 64) : (putDup d s).result = s.result := (rfl)
@[simp] theorem putDup_inbox (d : BitVec 64) : (putDup d s).inbox = s.inbox := (rfl)

/-! ### putAutoseq -/

@[simp] theorem putAutoseq_sval (m t : F64) : (putAutoseq m t s).sval = s.sval := (rfl)
@[simp] theorem putAutoseq_stime (m t : F64) : (putAutoseq m t s).stime = s.stime := (rfl)
@[simp] theorem putAutoseq_sledger (m t : F64) : (putAutoseq m t s).sledger = s.sledger := (rfl)
@[simp] theorem putAutoseq_rcLast (m t : F64) : (putAutoseq m t s).rcLast = s.rcLast := (rfl)
@[simp] theorem putAutoseq_rcAcc (m t : F64) : (putAutoseq m t s).rcAcc = s.rcAcc := (rfl)
@[simp] theorem putAutoseq_vpri (m t : F64) : (putAutoseq m t s).vpri = s.vpri := (rfl)
@[simp] theorem putAutoseq_veng (m t : F64) : (putAutoseq m t s).veng = s.veng := (rfl)
@[simp] theorem putAutoseq_vprop (m t : F64) : (putAutoseq m t s).vprop = s.vprop := (rfl)
@[simp] theorem putAutoseq_node (m t : F64) : (putAutoseq m t s).node = s.node := (rfl)
@[simp] theorem putAutoseq_cbank (m t : F64) : (putAutoseq m t s).cbank = s.cbank := (rfl)
@[simp] theorem putAutoseq_asValid (m t : F64) : (putAutoseq m t s).asValid = true := (rfl)
@[simp] theorem putAutoseq_asTime (m t : F64) : (putAutoseq m t s).asTime = t := (rfl)
@[simp] theorem putAutoseq_asDup (m t : F64) : (putAutoseq m t s).asDup = s.asDup := (rfl)
@[simp] theorem putAutoseq_asLedger (m t : F64) : (putAutoseq m t s).asLedger = s.asLedger ++ [⟨m, t⟩] := (rfl)
@[simp] theorem putAutoseq_thr (m t : F64) : (putAutoseq m t s).thr = s.thr := (rfl)
@[simp] theorem putAutoseq_dbgLedger (m t : F64) : (putAutoseq m t s).dbgLedger = s.dbgLedger := (rfl)
@[simp] theorem putAutoseq_frameCount (m t : F64) : (putAutoseq m t s).frameCount = s.frameCount := (rfl)
@[simp] theorem putAutoseq_result (m t : F64) : (putAutoseq m t s).result = s.result := (rfl)
@[simp] theorem putAutoseq_inbox (m t : F64) : (putAutoseq m t s).inbox = s.inbox := (rfl)

/-! ### clearThr -/

@[simp] theorem clearThr_sval : (clearThr s).sval = s.sval := (rfl)
@[simp] theorem clearThr_stime : (clearThr s).stime = s.stime := (rfl)
@[simp] theorem clearThr_sledger : (clearThr s).sledger = s.sledger := (rfl)
@[simp] theorem clearThr_rcLast : (clearThr s).rcLast = s.rcLast := (rfl)
@[simp] theorem clearThr_rcAcc : (clearThr s).rcAcc = s.rcAcc := (rfl)
@[simp] theorem clearThr_vpri : (clearThr s).vpri = s.vpri := (rfl)
@[simp] theorem clearThr_veng : (clearThr s).veng = s.veng := (rfl)
@[simp] theorem clearThr_vprop : (clearThr s).vprop = s.vprop := (rfl)
@[simp] theorem clearThr_node : (clearThr s).node = s.node := (rfl)
@[simp] theorem clearThr_cbank : (clearThr s).cbank = s.cbank := (rfl)
@[simp] theorem clearThr_asValid : (clearThr s).asValid = s.asValid := (rfl)
@[simp] theorem clearThr_asTime : (clearThr s).asTime = s.asTime := (rfl)
@[simp] theorem clearThr_asDup : (clearThr s).asDup = s.asDup := (rfl)
@[simp] theorem clearThr_asLedger : (clearThr s).asLedger = s.asLedger := (rfl)
@[simp] theorem clearThr_thr : (clearThr s).thr = [] := (rfl)
@[simp] theorem clearThr_dbgLedger : (clearThr s).dbgLedger = s.dbgLedger := (rfl)
@[simp] theorem clearThr_frameCount : (clearThr s).frameCount = s.frameCount := (rfl)
@[simp] theorem clearThr_result : (clearThr s).result = s.result := (rfl)
@[simp] theorem clearThr_inbox : (clearThr s).inbox = s.inbox := (rfl)

/-! ### appendThr -/

@[simp] theorem appendThr_sval (pt : ThrottlePoint) : (appendThr pt s).sval = s.sval := (rfl)
@[simp] theorem appendThr_stime (pt : ThrottlePoint) : (appendThr pt s).stime = s.stime := (rfl)
@[simp] theorem appendThr_sledger (pt : ThrottlePoint) : (appendThr pt s).sledger = s.sledger := (rfl)
@[simp] theorem appendThr_rcLast (pt : ThrottlePoint) : (appendThr pt s).rcLast = s.rcLast := (rfl)
@[simp] theorem appendThr_rcAcc (pt : ThrottlePoint) : (appendThr pt s).rcAcc = s.rcAcc := (rfl)
@[simp] theorem appendThr_vpri (pt : ThrottlePoint) : (appendThr pt s).vpri = s.vpri := (rfl)
@[simp] theorem appendThr_veng (pt : ThrottlePoint) : (appendThr pt s).veng = s.veng := (rfl)
@[simp] theorem appendThr_vprop (pt : ThrottlePoint) : (appendThr pt s).vprop = s.vprop := (rfl)
@[simp] theorem appendThr_node (pt : ThrottlePoint) : (appendThr pt s).node = s.node := (rfl)
@[simp] theorem appendThr_cbank (pt : ThrottlePoint) : (appendThr pt s).cbank = s.cbank := (rfl)
@[simp] theorem appendThr_asValid (pt : ThrottlePoint) : (appendThr pt s).asValid = s.asValid := (rfl)
@[simp] theorem appendThr_asTime (pt : ThrottlePoint) : (appendThr pt s).asTime = s.asTime := (rfl)
@[simp] theorem appendThr_asDup (pt : ThrottlePoint) : (appendThr pt s).asDup = s.asDup := (rfl)
@[simp] theorem appendThr_asLedger (pt : ThrottlePoint) : (appendThr pt s).asLedger = s.asLedger := (rfl)
@[simp] theorem appendThr_thr (pt : ThrottlePoint) : (appendThr pt s).thr = s.thr ++ [pt] := (rfl)
@[simp] theorem appendThr_dbgLedger (pt : ThrottlePoint) : (appendThr pt s).dbgLedger = s.dbgLedger := (rfl)
@[simp] theorem appendThr_frameCount (pt : ThrottlePoint) : (appendThr pt s).frameCount = s.frameCount := (rfl)
@[simp] theorem appendThr_result (pt : ThrottlePoint) : (appendThr pt s).result = s.result := (rfl)
@[simp] theorem appendThr_inbox (pt : ThrottlePoint) : (appendThr pt s).inbox = s.inbox := (rfl)

/-! ### appendDebug -/

@[simp] theorem appendDebug_sval (r : DebugRecord) : (appendDebug r s).sval = s.sval := (rfl)
@[simp] theorem appendDebug_stime (r : DebugRecord) : (appendDebug r s).stime = s.stime := (rfl)
@[simp] theorem appendDebug_sledger (r : DebugRecord) : (appendDebug r s).sledger = s.sledger := (rfl)
@[simp] theorem appendDebug_rcLast (r : DebugRecord) : (appendDebug r s).rcLast = s.rcLast := (rfl)
@[simp] theorem appendDebug_rcAcc (r : DebugRecord) : (appendDebug r s).rcAcc = s.rcAcc := (rfl)
@[simp] theorem appendDebug_vpri (r : DebugRecord) : (appendDebug r s).vpri = s.vpri := (rfl)
@[simp] theorem appendDebug_veng (r : DebugRecord) : (appendDebug r s).veng = s.veng := (rfl)
@[simp] theorem appendDebug_vprop (r : DebugRecord) : (appendDebug r s).vprop = s.vprop := (rfl)
@[simp] theorem appendDebug_node (r : DebugRecord) : (appendDebug r s).node = s.node := (rfl)
@[simp] theorem appendDebug_cbank (r : DebugRecord) : (appendDebug r s).cbank = s.cbank := (rfl)
@[simp] theorem appendDebug_asValid (r : DebugRecord) : (appendDebug r s).asValid = s.asValid := (rfl)
@[simp] theorem appendDebug_asTime (r : DebugRecord) : (appendDebug r s).asTime = s.asTime := (rfl)
@[simp] theorem appendDebug_asDup (r : DebugRecord) : (appendDebug r s).asDup = s.asDup := (rfl)
@[simp] theorem appendDebug_asLedger (r : DebugRecord) : (appendDebug r s).asLedger = s.asLedger := (rfl)
@[simp] theorem appendDebug_thr (r : DebugRecord) : (appendDebug r s).thr = s.thr := (rfl)
@[simp] theorem appendDebug_dbgLedger (r : DebugRecord) : (appendDebug r s).dbgLedger = s.dbgLedger ++ [r] := (rfl)
@[simp] theorem appendDebug_frameCount (r : DebugRecord) : (appendDebug r s).frameCount = s.frameCount := (rfl)
@[simp] theorem appendDebug_result (r : DebugRecord) : (appendDebug r s).result = s.result := (rfl)
@[simp] theorem appendDebug_inbox (r : DebugRecord) : (appendDebug r s).inbox = s.inbox := (rfl)

/-! ### putValve -/

@[simp] theorem putValve_sval (b : ValveBank) (j : Nat) (v : Byte) : (putValve b j v s).sval = s.sval := by
  cases b <;> rfl
@[simp] theorem putValve_stime (b : ValveBank) (j : Nat) (v : Byte) : (putValve b j v s).stime = s.stime := by
  cases b <;> rfl
@[simp] theorem putValve_sledger (b : ValveBank) (j : Nat) (v : Byte) : (putValve b j v s).sledger = s.sledger := by
  cases b <;> rfl
@[simp] theorem putValve_rcLast (b : ValveBank) (j : Nat) (v : Byte) : (putValve b j v s).rcLast = s.rcLast := by
  cases b <;> rfl
@[simp] theorem putValve_rcAcc (b : ValveBank) (j : Nat) (v : Byte) : (putValve b j v s).rcAcc = s.rcAcc := by
  cases b <;> rfl
@[simp] theorem putValve_node (b : ValveBank) (j : Nat) (v : Byte) : (putValve b j v s).node = s.node := by
  cases b <;> rfl
@[simp] theorem putValve_cbank (b : ValveBank) (j : Nat) (v : Byte) : (putValve b j v s).cbank = s.cbank := by
  cases b <;> rfl
@[simp] theorem putValve_asValid (b : ValveBank) (j : Nat) (v : Byte) : (putValve b j v s).asValid = s.asValid := by
  cases b <;> rfl
@[simp] theorem putValve_asTime (b : ValveBank) (j : Nat) (v : Byte) : (putValve b j v s).asTime = s.asTime := by
  cases b <;> rfl
@[simp] theorem putValve_asDup (b : ValveBank) (j : Nat) (v : Byte) : (putValve b j v s).asDup = s.asDup := by
  cases b <;> rfl
@[simp] theorem putValve_asLedger (b : ValveBank) (j : Nat) (v : Byte) : (putValve b j v s).asLedger = s.asLedger := by
  cases b <;> rfl
@[simp] theorem putValve_thr (b : ValveBank) (j : Nat) (v : Byte) : (putValve b j v s).thr = s.thr := by
  cases b <;> rfl
@[simp] theorem putValve_dbgLedger (b : ValveBank) (j : Nat) (v : Byte) : (putValve b j v s).dbgLedger = s.dbgLedger := by
  cases b <;> rfl
@[simp] theorem putValve_frameCount (b : ValveBank) (j : Nat) (v : Byte) : (putValve b j v s).frameCount = s.frameCount := by
  cases b <;> rfl
@[simp] theorem putValve_result (b : ValveBank) (j : Nat) (v : Byte) : (putValve b j v s).result = s.result := by
  cases b <;> rfl
@[simp] theorem putValve_inbox (b : ValveBank) (j : Nat) (v : Byte) : (putValve b j v s).inbox = s.inbox := by
  cases b <;> rfl
@[simp] theorem putValve_eng_veng (j : Nat) (v : Byte) : (putValve .eng j v s).veng = modifyAt s.veng j fun _ => v := (rfl)
@[simp] theorem putValve_eng_vpri (j : Nat) (v : Byte) : (putValve .eng j v s).vpri = s.vpri := (rfl)
@[simp] theorem putValve_eng_vprop (j : Nat) (v : Byte) : (putValve .eng j v s).vprop = s.vprop := (rfl)
@[simp] theorem putValve_pri_veng (j : Nat) (v : Byte) : (putValve .pri j v s).veng = s.veng := (rfl)
@[simp] theorem putValve_pri_vpri (j : Nat) (v : Byte) : (putValve .pri j v s).vpri = modifyAt s.vpri j fun _ => v := (rfl)
@[simp] theorem putValve_pri_vprop (j : Nat) (v : Byte) : (putValve .pri j v s).vprop = s.vprop := (rfl)
@[simp] theorem putValve_prop_veng (j : Nat) (v : Byte) : (putValve .prop j v s).veng = s.veng := (rfl)
@[simp] theorem putValve_prop_vpri (j : Nat) (v : Byte) : (putValve .prop j v s).vpri = s.vpri := (rfl)
@[simp] theorem putValve_prop_vprop (j : Nat) (v : Byte) : (putValve .prop j v s).vprop = modifyAt s.vprop j fun _ => v := (rfl)

/-! ### The state after reset -/

@[simp] theorem reset_sval : State.reset.sval = Vector.replicate nSensor 0 := (rfl)
@[simp] theorem reset_stime : State.reset.stime = Vector.replicate nSensor 0 := (rfl)
@[simp] theorem reset_sledger : State.reset.sledger = Vector.replicate nSensor [] := (rfl)
@[simp] theorem reset_rcLast : State.reset.rcLast = 0 := (rfl)
@[simp] theorem reset_rcAcc : State.reset.rcAcc = 0 := (rfl)
@[simp] theorem reset_vpri : State.reset.vpri = Vector.replicate nValve 0 := (rfl)
@[simp] theorem reset_veng : State.reset.veng = Vector.replicate nValve 0 := (rfl)
@[simp] theorem reset_vprop : State.reset.vprop = Vector.replicate nValve 0 := (rfl)
@[simp] theorem reset_node : State.reset.node = Vector.replicate nNode .setup := (rfl)
@[simp] theorem reset_cbank : State.reset.cbank = Vector.replicate nCtrl (Vector.replicate nChan 0) := (rfl)
@[simp] theorem reset_asValid : State.reset.asValid = false := (rfl)
@[simp] theorem reset_asTime : State.reset.asTime = 0 := (rfl)
@[simp] theorem reset_asDup : State.reset.asDup = 0 := (rfl)
@[simp] theorem reset_asLedger : State.reset.asLedger = [] := (rfl)
@[simp] theorem reset_thr : State.reset.thr = [] := (rfl)
@[simp] theorem reset_dbgLedger : State.reset.dbgLedger = [] := (rfl)
@[simp] theorem reset_frameCount : State.reset.frameCount = 0 := (rfl)
@[simp] theorem reset_result : State.reset.result = .done := (rfl)
@[simp] theorem reset_inbox : State.reset.inbox = [] := (rfl)

/-- With no previous autosequence time asked for, a configuration resets to RESET_VALUES, its counter moved by
FRAME_COUNT_BASE. -/
theorem resetStore_noPrevious (cfg : Config) (h : cfg.asReset = .noPrevious) :
    resetStore cfg = { cfg.resetValues with frameCount := cfg.resetValues.frameCount + cfg.frameCountBase } := by
  unfold resetStore; rw [h]

/-- With a previous time of 0.0 asked for, AS_VALID is set and AS_TIME is 0.0 beside that. -/
theorem resetStore_previousZero (cfg : Config) (h : cfg.asReset = .previousZero) :
    resetStore cfg = { cfg.resetValues with
      frameCount := cfg.resetValues.frameCount + cfg.frameCountBase, asValid := true, asTime := 0 } := by
  unfold resetStore; rw [h]

end Sys2Proof.Machine
end

