-- ==== Sys2Proof/Laws/Ops.lean ====
section
/-! SUPPORT. Spec lemmas of the shared operations: what each can do, said once. -/

namespace Sys2Proof.Machine

/-! ### Banks -/

/-- An element read after a bank update: the updated one where the indices agree, else the old one. -/
theorem getElem_modifyAt {α : Type} {n : Nat} (v : Vector α n) (i : Nat) (g : α → α) (j : Nat) (h : j < n) :
    (modifyAt v i g)[j] = if i = j then g v[j] else v[j] := by
  unfold modifyAt
  split
  · rename_i hi
    rw [Vector.getElem_set]
    split
    · rename_i e; subst e; rfl
    · rfl
  · rename_i hi
    rw [if_neg (by omega)]

/-- The element updated, read back. -/
@[simp] theorem getElem_modifyAt_self {α : Type} {n : Nat} (v : Vector α n) (i : Nat) (g : α → α) (h : i < n) :
    (modifyAt v i g)[i] = g v[i] := by
  rw [getElem_modifyAt, if_pos rfl]

/-- Any other element is as before. -/
theorem getElem_modifyAt_ne {α : Type} {n : Nat} (v : Vector α n) (i : Nat) (g : α → α) (j : Nat) (h : j < n)
    (hne : i ≠ j) : (modifyAt v i g)[j] = v[j] := by
  rw [getElem_modifyAt, if_neg hne]

/-- An update outside the bank changes nothing. -/
theorem modifyAt_of_le {α : Type} {n : Nat} (v : Vector α n) (i : Nat) (g : α → α) (h : n ≤ i) :
    modifyAt v i g = v := dif_neg (Nat.not_lt.mpr h)

/-! ### Result codes -/

@[simp] theorem join_done (r : Result) : Result.join .done r = r := by
  cases r <;> rfl

@[simp] theorem join_range (c ch : Nat) (r : Result) : Result.join (.range c ch) r = .range c ch := by
  cases r <;> rfl

/-! ### The ends of a step -/

/-- At the default, unbounded capacity no ledger is over capacity. -/
@[simp] theorem overCapacity_config (s : State) : overCapacity config s = false := rfl

/-- At the default configuration a step ends in a next state. -/
@[simp] theorem endStep_config (s : State) : endStep config s = .next (countFrame s) := rfl

/-- At the default configuration a handler's step is a next state: the work between DONE and the count. -/
@[simp] theorem runFrame_config (work : State → State) (s : State) :
    runFrame config work s = .next (countFrame (work (beginStep s))) := rfl

/-! ### exec, said once -/

/-- The work an instruction does between the two ends of its step. -/
def workOf : Instr → State → State
  | .ignore _ _ => raise .ignored
  | .sensor a cnt p => sensor config a cnt p
  | .clock p => clock config p
  | .nodeNop a p => nodeThenCascade config a p
  | .node514 p => nodeThenCascade config (BitVec.ofNat 11 config.node0Addr) p
  | .node515 p => nodeThenCascade config (BitVec.ofNat 11 config.node1Addr) p
  | .node520 p => nodeThenCascade config (BitVec.ofNat 11 config.node2Addr) p
  | .valveEng f1 f2 p => valve .eng f1 f2 p
  | .valvePri f1 f2 p => valve .pri f1 f2 p
  | .valveProp f1 f2 p => valve .prop f1 f2 p
  | .autoseq p => autoseq config p
  | .throttle p => throttle config p
  | .ctrlI32 a p => genericOrIgnored config a p
  | .ctrlU32 a p => genericOrIgnored config a p
  | .ctrlF32 a p => genericOrIgnored config a p

/-- Every instruction answers one next state: the frame is begun, worked on and counted. -/
theorem exec_eq (i : Instr) (s : State) : exec i s = .next (countFrame (workOf i (beginStep s))) := by
  cases i <;> rfl

/-- The same as an inversion: what a next state of exec is. -/
theorem exec_next_iff (i : Instr) (s t : State) :
    exec i s = .next t ↔ t = countFrame (workOf i (beginStep s)) := by
  rw [exec_eq]
  constructor
  · intro h; injection h with h; exact h.symm
  · intro h; rw [h]

end Sys2Proof.Machine
end

