-- ==== Sys2Proof/Laws/Handlers.lean ====
section
/-! SUPPORT. Spec lemmas of the handlers: what each leaves alone, field by field, and what it writes. -/

namespace Sys2Proof.Machine

variable (s : State)

/-! ### Sensor groups -/

section Group

variable (cfg : Config) (sid : Nat) (v : Word) (raw : F64)

@[simp] theorem group_rcLast : (group cfg sid v raw s).rcLast = raw := (rfl)
@[simp] theorem group_rcAcc :
    (group cfg sid v raw s).rcAcc = rolloverAcc cfg raw s.rcLast s.rcAcc := (rfl)
@[simp] theorem group_sval : (group cfg sid v raw s).sval = modifyAt s.sval sid fun _ => v := (rfl)
@[simp] theorem group_stime :
    (group cfg sid v raw s).stime =
      modifyAt s.stime sid fun _ => storedTime cfg raw (rolloverAcc cfg raw s.rcLast s.rcAcc) := (rfl)
@[simp] theorem group_sledger :
    (group cfg sid v raw s).sledger = modifyAt s.sledger sid fun l =>
      l ++ [⟨storedTime cfg raw (rolloverAcc cfg raw s.rcLast s.rcAcc), v⟩] := (rfl)
@[simp] theorem group_vpri : (group cfg sid v raw s).vpri = s.vpri := (rfl)
@[simp] theorem group_veng : (group cfg sid v raw s).veng = s.veng := (rfl)
@[simp] theorem group_vprop : (group cfg sid v raw s).vprop = s.vprop := (rfl)
@[simp] theorem group_node : (group cfg sid v raw s).node = s.node := (rfl)
@[simp] theorem group_cbank : (group cfg sid v raw s).cbank = s.cbank := (rfl)
@[simp] theorem group_asValid : (group cfg sid v raw s).asValid = s.asValid := (rfl)
@[simp] theorem group_asTime : (group cfg sid v raw s).asTime = s.asTime := (rfl)
@[simp] theorem group_asDup : (group cfg sid v raw s).asDup = s.asDup := (rfl)
@[simp] theorem group_asLedger : (group cfg sid v raw s).asLedger = s.asLedger := (rfl)
@[simp] theorem group_thr : (group cfg sid v raw s).thr = s.thr := (rfl)
@[simp] theorem group_dbgLedger : (group cfg sid v raw s).dbgLedger = s.dbgLedger := (rfl)
@[simp] theorem group_frameCount : (group cfg sid v raw s).frameCount = s.frameCount := (rfl)
@[simp] theorem group_result : (group cfg sid v raw s).result = s.result := (rfl)
@[simp] theorem group_inbox : (group cfg sid v raw s).inbox = s.inbox := (rfl)

end Group

/-- A raw timestamp is never less than itself, so the same one again is no wrap (41_sensor.md R139). -/
theorem lt_self_false (x : F64) : F64.lt x x = false := by
  simp [F64.lt]

/-- A second group of a frame leaves RC_ACC as the first left it (41_sensor.md R139). -/
@[simp] theorem rolloverAcc_same (cfg : Config) (raw acc : F64) : rolloverAcc cfg raw raw acc = acc := by
  simp [rolloverAcc, lt_self_false]

/-- A group whose raw time is RC_LAST already only puts its sample (41_sensor.md R139). -/
theorem group_of_rcLast (cfg : Config) (sid : Nat) (v : Word) (raw : F64) (h : s.rcLast = raw) :
    group cfg sid v raw s = putSample sid v (storedTime cfg raw s.rcAcc) s := by
  have e : putRollover raw s.rcAcc s = s := by cases s; subst h; rfl
  unfold group
  rw [h, rolloverAcc_same, e]

/-! ### Sensor frames -/

section Sensor

variable (cfg : Config) (a : Addr) (cnt : BitVec 21) (p : List Byte) (raw : F64)

@[simp] theorem sensorGroups_vpri : (sensorGroups cfg a p raw s).vpri = s.vpri := by
  unfold sensorGroups sensorGroup3 sensorGroup2; split_ifs <;> simp
@[simp] theorem sensor_vpri : (sensor cfg a cnt p s).vpri = s.vpri := by
  unfold sensor; split_ifs <;> simp
@[simp] theorem sensorGroups_veng : (sensorGroups cfg a p raw s).veng = s.veng := by
  unfold sensorGroups sensorGroup3 sensorGroup2; split_ifs <;> simp
@[simp] theorem sensor_veng : (sensor cfg a cnt p s).veng = s.veng := by
  unfold sensor; split_ifs <;> simp
@[simp] theorem sensorGroups_vprop : (sensorGroups cfg a p raw s).vprop = s.vprop := by
  unfold sensorGroups sensorGroup3 sensorGroup2; split_ifs <;> simp
@[simp] theorem sensor_vprop : (sensor cfg a cnt p s).vprop = s.vprop := by
  unfold sensor; split_ifs <;> simp
@[simp] theorem sensorGroups_node : (sensorGroups cfg a p raw s).node = s.node := by
  unfold sensorGroups sensorGroup3 sensorGroup2; split_ifs <;> simp
@[simp] theorem sensor_node : (sensor cfg a cnt p s).node = s.node := by
  unfold sensor; split_ifs <;> simp
@[simp] theorem sensorGroups_cbank : (sensorGroups cfg a p raw s).cbank = s.cbank := by
  unfold sensorGroups sensorGroup3 sensorGroup2; split_ifs <;> simp
@[simp] theorem sensor_cbank : (sensor cfg a cnt p s).cbank = s.cbank := by
  unfold sensor; split_ifs <;> simp
@[simp] theorem sensorGroups_asValid : (sensorGroups cfg a p raw s).asValid = s.asValid := by
  unfold sensorGroups sensorGroup3 sensorGroup2; split_ifs <;> simp
@[simp] theorem sensor_asValid : (sensor cfg a cnt p s).asValid = s.asValid := by
  unfold sensor; split_ifs <;> simp
@[simp] theorem sensorGroups_asTime : (sensorGroups cfg a p raw s).asTime = s.asTime := by
  unfold sensorGroups sensorGroup3 sensorGroup2; split_ifs <;> simp
@[simp] theorem sensor_asTime : (sensor cfg a cnt p s).asTime = s.asTime := by
  unfold sensor; split_ifs <;> simp
@[simp] theorem sensorGroups_asDup : (sensorGroups cfg a p raw s).asDup = s.asDup := by
  unfold sensorGroups sensorGroup3 sensorGroup2; split_ifs <;> simp
@[simp] theorem sensor_asDup : (sensor cfg a cnt p s).asDup = s.asDup := by
  unfold sensor; split_ifs <;> simp
@[simp] theorem sensorGroups_asLedger : (sensorGroups cfg a p raw s).asLedger = s.asLedger := by
  unfold sensorGroups sensorGroup3 sensorGroup2; split_ifs <;> simp
@[simp] theorem sensor_asLedger : (sensor cfg a cnt p s).asLedger = s.asLedger := by
  unfold sensor; split_ifs <;> simp
@[simp] theorem sensorGroups_thr : (sensorGroups cfg a p raw s).thr = s.thr := by
  unfold sensorGroups sensorGroup3 sensorGroup2; split_ifs <;> simp
@[simp] theorem sensor_thr : (sensor cfg a cnt p s).thr = s.thr := by
  unfold sensor; split_ifs <;> simp
@[simp] theorem sensorGroups_dbgLedger : (sensorGroups cfg a p raw s).dbgLedger = s.dbgLedger := by
  unfold sensorGroups sensorGroup3 sensorGroup2; split_ifs <;> simp
@[simp] theorem sensor_dbgLedger : (sensor cfg a cnt p s).dbgLedger = s.dbgLedger := by
  unfold sensor; split_ifs <;> simp
@[simp] theorem sensorGroups_frameCount : (sensorGroups cfg a p raw s).frameCount = s.frameCount := by
  unfold sensorGroups sensorGroup3 sensorGroup2; split_ifs <;> simp
@[simp] theorem sensor_frameCount : (sensor cfg a cnt p s).frameCount = s.frameCount := by
  unfold sensor; split_ifs <;> simp
@[simp] theorem sensorGroups_result : (sensorGroups cfg a p raw s).result = s.result := by
  unfold sensorGroups sensorGroup3 sensorGroup2; split_ifs <;> simp
@[simp] theorem sensorGroups_inbox : (sensorGroups cfg a p raw s).inbox = s.inbox := by
  unfold sensorGroups sensorGroup3 sensorGroup2; split_ifs <;> simp
@[simp] theorem sensor_inbox : (sensor cfg a cnt p s).inbox = s.inbox := by
  unfold sensor; split_ifs <;> simp

end Sensor

/-! ### SHORT for a missing byte -/

@[simp] theorem raiseIfShort_sval (p : List Byte) : (raiseIfShort p s).sval = s.sval := by
  unfold raiseIfShort; split_ifs <;> simp
@[simp] theorem raiseIfShort_stime (p : List Byte) : (raiseIfShort p s).stime = s.stime := by
  unfold raiseIfShort; split_ifs <;> simp
@[simp] theorem raiseIfShort_sledger (p : List Byte) : (raiseIfShort p s).sledger = s.sledger := by
  unfold raiseIfShort; split_ifs <;> simp
@[simp] theorem raiseIfShort_rcLast (p : List Byte) : (raiseIfShort p s).rcLast = s.rcLast := by
  unfold raiseIfShort; split_ifs <;> simp
@[simp] theorem raiseIfShort_rcAcc (p : List Byte) : (raiseIfShort p s).rcAcc = s.rcAcc := by
  unfold raiseIfShort; split_ifs <;> simp
@[simp] theorem raiseIfShort_vpri (p : List Byte) : (raiseIfShort p s).vpri = s.vpri := by
  unfold raiseIfShort; split_ifs <;> simp
@[simp] theorem raiseIfShort_veng (p : List Byte) : (raiseIfShort p s).veng = s.veng := by
  unfold raiseIfShort; split_ifs <;> simp
@[simp] theorem raiseIfShort_vprop (p : List Byte) : (raiseIfShort p s).vprop = s.vprop := by
  unfold raiseIfShort; split_ifs <;> simp
@[simp] theorem raiseIfShort_node (p : List Byte) : (raiseIfShort p s).node = s.node := by
  unfold raiseIfShort; split_ifs <;> simp
@[simp] theorem raiseIfShort_cbank (p : List Byte) : (raiseIfShort p s).cbank = s.cbank := by
  unfold raiseIfShort; split_ifs <;> simp
@[simp] theorem raiseIfShort_asValid (p : List Byte) : (raiseIfShort p s).asValid = s.asValid := by
  unfold raiseIfShort; split_ifs <;> simp
@[simp] theorem raiseIfShort_asTime (p : List Byte) : (raiseIfShort p s).asTime = s.asTime := by
  unfold raiseIfShort; split_ifs <;> simp
@[simp] theorem raiseIfShort_asDup (p : List Byte) : (raiseIfShort p s).asDup = s.asDup := by
  unfold raiseIfShort; split_ifs <;> simp
@[simp] theorem raiseIfShort_asLedger (p : List Byte) : (raiseIfShort p s).asLedger = s.asLedger := by
  unfold raiseIfShort; split_ifs <;> simp
@[simp] theorem raiseIfShort_thr (p : List Byte) : (raiseIfShort p s).thr = s.thr := by
  unfold raiseIfShort; split_ifs <;> simp
@[simp] theorem raiseIfShort_dbgLedger (p : List Byte) : (raiseIfShort p s).dbgLedger = s.dbgLedger := by
  unfold raiseIfShort; split_ifs <;> simp
@[simp] theorem raiseIfShort_frameCount (p : List Byte) : (raiseIfShort p s).frameCount = s.frameCount := by
  unfold raiseIfShort; split_ifs <;> simp
@[simp] theorem raiseIfShort_inbox (p : List Byte) : (raiseIfShort p s).inbox = s.inbox := by
  unfold raiseIfShort; split_ifs <;> simp

/-! ### Valve frames -/

section Valve

variable (b : ValveBank) (j : Nat) (f1 f2 : Byte) (p : List Byte)

@[simp] theorem valveBytes_sval : (valveBytes b j p s).sval = s.sval := by
  induction p generalizing j s with
  | nil => rfl
  | cons x xs ih => simp [valveBytes, ih]
@[simp] theorem valveChannel1_sval : (valveChannel1 b f1 s).sval = s.sval := by
  unfold valveChannel1; split_ifs <;> simp
@[simp] theorem valve_sval : (valve b f1 f2 p s).sval = s.sval := by
  simp [valve]
@[simp] theorem valveBytes_stime : (valveBytes b j p s).stime = s.stime := by
  induction p generalizing j s with
  | nil => rfl
  | cons x xs ih => simp [valveBytes, ih]
@[simp] theorem valveChannel1_stime : (valveChannel1 b f1 s).stime = s.stime := by
  unfold valveChannel1; split_ifs <;> simp
@[simp] theorem valve_stime : (valve b f1 f2 p s).stime = s.stime := by
  simp [valve]
@[simp] theorem valveBytes_sledger : (valveBytes b j p s).sledger = s.sledger := by
  induction p generalizing j s with
  | nil => rfl
  | cons x xs ih => simp [valveBytes, ih]
@[simp] theorem valveChannel1_sledger : (valveChannel1 b f1 s).sledger = s.sledger := by
  unfold valveChannel1; split_ifs <;> simp
@[simp] theorem valve_sledger : (valve b f1 f2 p s).sledger = s.sledger := by
  simp [valve]
@[simp] theorem valveBytes_rcLast : (valveBytes b j p s).rcLast = s.rcLast := by
  induction p generalizing j s with
  | nil => rfl
  | cons x xs ih => simp [valveBytes, ih]
@[simp] theorem valveChannel1_rcLast : (valveChannel1 b f1 s).rcLast = s.rcLast := by
  unfold valveChannel1; split_ifs <;> simp
@[simp] theorem valve_rcLast : (valve b f1 f2 p s).rcLast = s.rcLast := by
  simp [valve]
@[simp] theorem valveBytes_rcAcc : (valveBytes b j p s).rcAcc = s.rcAcc := by
  induction p generalizing j s with
  | nil => rfl
  | cons x xs ih => simp [valveBytes, ih]
@[simp] theorem valveChannel1_rcAcc : (valveChannel1 b f1 s).rcAcc = s.rcAcc := by
  unfold valveChannel1; split_ifs <;> simp
@[simp] theorem valve_rcAcc : (valve b f1 f2 p s).rcAcc = s.rcAcc := by
  simp [valve]
@[simp] theorem valveBytes_node : (valveBytes b j p s).node = s.node := by
  induction p generalizing j s with
  | nil => rfl
  | cons x xs ih => simp [valveBytes, ih]
@[simp] theorem valveChannel1_node : (valveChannel1 b f1 s).node = s.node := by
  unfold valveChannel1; split_ifs <;> simp
@[simp] theorem valve_node : (valve b f1 f2 p s).node = s.node := by
  simp [valve]
@[simp] theorem valveBytes_cbank : (valveBytes b j p s).cbank = s.cbank := by
  induction p generalizing j s with
  | nil => rfl
  | cons x xs ih => simp [valveBytes, ih]
@[simp] theorem valveChannel1_cbank : (valveChannel1 b f1 s).cbank = s.cbank := by
  unfold valveChannel1; split_ifs <;> simp
@[simp] theorem valve_cbank : (valve b f1 f2 p s).cbank = s.cbank := by
  simp [valve]
@[simp] theorem valveBytes_asValid : (valveBytes b j p s).asValid = s.asValid := by
  induction p generalizing j s with
  | nil => rfl
  | cons x xs ih => simp [valveBytes, ih]
@[simp] theorem valveChannel1_asValid : (valveChannel1 b f1 s).asValid = s.asValid := by
  unfold valveChannel1; split_ifs <;> simp
@[simp] theorem valve_asValid : (valve b f1 f2 p s).asValid = s.asValid := by
  simp [valve]
@[simp] theorem valveBytes_asTime : (valveBytes b j p s).asTime = s.asTime := by
  induction p generalizing j s with
  | nil => rfl
  | cons x xs ih => simp [valveBytes, ih]
@[simp] theorem valveChannel1_asTime : (valveChannel1 b f1 s).asTime = s.asTime := by
  unfold valveChannel1; split_ifs <;> simp
@[simp] theorem valve_asTime : (valve b f1 f2 p s).asTime = s.asTime := by
  simp [valve]
@[simp] theorem valveBytes_asDup : (valveBytes b j p s).asDup = s.asDup := by
  induction p generalizing j s with
  | nil => rfl
  | cons x xs ih => simp [valveBytes, ih]
@[simp] theorem valveChannel1_asDup : (valveChannel1 b f1 s).asDup = s.asDup := by
  unfold valveChannel1; split_ifs <;> simp
@[simp] theorem valve_asDup : (valve b f1 f2 p s).asDup = s.asDup := by
  simp [valve]
@[simp] theorem valveBytes_asLedger : (valveBytes b j p s).asLedger = s.asLedger := by
  induction p generalizing j s with
  | nil => rfl
  | cons x xs ih => simp [valveBytes, ih]
@[simp] theorem valveChannel1_asLedger : (valveChannel1 b f1 s).asLedger = s.asLedger := by
  unfold valveChannel1; split_ifs <;> simp
@[simp] theorem valve_asLedger : (valve b f1 f2 p s).asLedger = s.asLedger := by
  simp [valve]
@[simp] theorem valveBytes_thr : (valveBytes b j p s).thr = s.thr := by
  induction p generalizing j s with
  | nil => rfl
  | cons x xs ih => simp [valveBytes, ih]
@[simp] theorem valveChannel1_thr : (valveChannel1 b f1 s).thr = s.thr := by
  unfold valveChannel1; split_ifs <;> simp
@[simp] theorem valve_thr : (valve b f1 f2 p s).thr = s.thr := by
  simp [valve]
@[simp] theorem valveBytes_dbgLedger : (valveBytes b j p s).dbgLedger = s.dbgLedger := by
  induction p generalizing j s with
  | nil => rfl
  | cons x xs ih => simp [valveBytes, ih]
@[simp] theorem valveChannel1_dbgLedger : (valveChannel1 b f1 s).dbgLedger = s.dbgLedger := by
  unfold valveChannel1; split_ifs <;> simp
@[simp] theorem valve_dbgLedger : (valve b f1 f2 p s).dbgLedger = s.dbgLedger := by
  simp [valve]
@[simp] theorem valveBytes_frameCount : (valveBytes b j p s).frameCount = s.frameCount := by
  induction p generalizing j s with
  | nil => rfl
  | cons x xs ih => simp [valveBytes, ih]
@[simp] theorem valveChannel1_frameCount : (valveChannel1 b f1 s).frameCount = s.frameCount := by
  unfold valveChannel1; split_ifs <;> simp
@[simp] theorem valve_frameCount : (valve b f1 f2 p s).frameCount = s.frameCount := by
  simp [valve]
@[simp] theorem valveBytes_result : (valveBytes b j p s).result = s.result := by
  induction p generalizing j s with
  | nil => rfl
  | cons x xs ih => simp [valveBytes, ih]
@[simp] theorem valveChannel1_result : (valveChannel1 b f1 s).result = s.result := by
  unfold valveChannel1; split_ifs <;> simp
@[simp] theorem valveBytes_inbox : (valveBytes b j p s).inbox = s.inbox := by
  induction p generalizing j s with
  | nil => rfl
  | cons x xs ih => simp [valveBytes, ih]
@[simp] theorem valveChannel1_inbox : (valveChannel1 b f1 s).inbox = s.inbox := by
  unfold valveChannel1; split_ifs <;> simp
@[simp] theorem valve_inbox : (valve b f1 f2 p s).inbox = s.inbox := by
  simp [valve]
@[simp] theorem valveBytes_eng_vpri : (valveBytes .eng j p s).vpri = s.vpri := by
  induction p generalizing j s with
  | nil => rfl
  | cons x xs ih => simp [valveBytes, ih]
@[simp] theorem valve_eng_vpri : (valve .eng f1 f2 p s).vpri = s.vpri := by
  unfold valve valveChannel1; split_ifs <;> simp
@[simp] theorem valveBytes_eng_vprop : (valveBytes .eng j p s).vprop = s.vprop := by
  induction p generalizing j s with
  | nil => rfl
  | cons x xs ih => simp [valveBytes, ih]
@[simp] theorem valve_eng_vprop : (valve .eng f1 f2 p s).vprop = s.vprop := by
  unfold valve valveChannel1; split_ifs <;> simp
/-- The payload channels of a valve frame: from index j on, one byte each (42_valve.md R156). -/
theorem valveBytes_eng_getElem (k : Nat) (hk : k < nValve) :
    (valveBytes .eng j p s).veng[k] = if h : j ≤ k ∧ k - j < p.length then p[k - j] else s.veng[k] := by
  induction p generalizing j s with
  | nil => simp [valveBytes]
  | cons x xs ih =>
    simp only [valveBytes, ih, putValve_eng_veng]
    by_cases hj : j + 1 ≤ k ∧ k - (j + 1) < xs.length
    · have h2 : j ≤ k ∧ k - j < (x :: xs).length := by simp only [List.length_cons]; omega
      have h3 : k - j = (k - (j + 1)) + 1 := by omega
      rw [dif_pos hj, dif_pos h2]
      simp only [h3, List.getElem_cons_succ]
    · rw [dif_neg hj, getElem_modifyAt]
      by_cases e : j = k
      · subst e; simp
      · have h2 : ¬ (j ≤ k ∧ k - j < (x :: xs).length) := by simp only [List.length_cons]; omega
        rw [if_neg e, dif_neg h2]
@[simp] theorem valveBytes_pri_veng : (valveBytes .pri j p s).veng = s.veng := by
  induction p generalizing j s with
  | nil => rfl
  | cons x xs ih => simp [valveBytes, ih]
@[simp] theorem valve_pri_veng : (valve .pri f1 f2 p s).veng = s.veng := by
  unfold valve valveChannel1; split_ifs <;> simp
@[simp] theorem valveBytes_pri_vprop : (valveBytes .pri j p s).vprop = s.vprop := by
  induction p generalizing j s with
  | nil => rfl
  | cons x xs ih => simp [valveBytes, ih]
@[simp] theorem valve_pri_vprop : (valve .pri f1 f2 p s).vprop = s.vprop := by
  unfold valve valveChannel1; split_ifs <;> simp
/-- The payload channels of a valve frame: from index j on, one byte each (42_valve.md R156). -/
theorem valveBytes_pri_getElem (k : Nat) (hk : k < nValve) :
    (valveBytes .pri j p s).vpri[k] = if h : j ≤ k ∧ k - j < p.length then p[k - j] else s.vpri[k] := by
  induction p generalizing j s with
  | nil => simp [valveBytes]
  | cons x xs ih =>
    simp only [valveBytes, ih, putValve_pri_vpri]
    by_cases hj : j + 1 ≤ k ∧ k - (j + 1) < xs.length
    · have h2 : j ≤ k ∧ k - j < (x :: xs).length := by simp only [List.length_cons]; omega
      have h3 : k - j = (k - (j + 1)) + 1 := by omega
      rw [dif_pos hj, dif_pos h2]
      simp only [h3, List.getElem_cons_succ]
    · rw [dif_neg hj, getElem_modifyAt]
      by_cases e : j = k
      · subst e; simp
      · have h2 : ¬ (j ≤ k ∧ k - j < (x :: xs).length) := by simp only [List.length_cons]; omega
        rw [if_neg e, dif_neg h2]
@[simp] theorem valveBytes_prop_veng : (valveBytes .prop j p s).veng = s.veng := by
  induction p generalizing j s with
  | nil => rfl
  | cons x xs ih => simp [valveBytes, ih]
@[simp] theorem valve_prop_veng : (valve .prop f1 f2 p s).veng = s.veng := by
  unfold valve valveChannel1; split_ifs <;> simp
@[simp] theorem valveBytes_prop_vpri : (valveBytes .prop j p s).vpri = s.vpri := by
  induction p generalizing j s with
  | nil => rfl
  | cons x xs ih => simp [valveBytes, ih]
@[simp] theorem valve_prop_vpri : (valve .prop f1 f2 p s).vpri = s.vpri := by
  unfold valve valveChannel1; split_ifs <;> simp
/-- The payload channels of a valve frame: from index j on, one byte each (42_valve.md R156). -/
theorem valveBytes_prop_getElem (k : Nat) (hk : k < nValve) :
    (valveBytes .prop j p s).vprop[k] = if h : j ≤ k ∧ k - j < p.length then p[k - j] else s.vprop[k] := by
  induction p generalizing j s with
  | nil => simp [valveBytes]
  | cons x xs ih =>
    simp only [valveBytes, ih, putValve_prop_vprop]
    by_cases hj : j + 1 ≤ k ∧ k - (j + 1) < xs.length
    · have h2 : j ≤ k ∧ k - j < (x :: xs).length := by simp only [List.length_cons]; omega
      have h3 : k - j = (k - (j + 1)) + 1 := by omega
      rw [dif_pos hj, dif_pos h2]
      simp only [h3, List.getElem_cons_succ]
    · rw [dif_neg hj, getElem_modifyAt]
      by_cases e : j = k
      · subst e; simp
      · have h2 : ¬ (j ≤ k ∧ k - j < (x :: xs).length) := by simp only [List.length_cons]; omega
        rw [if_neg e, dif_neg h2]

end Valve

/-! ### Autosequence, throttle, generic, clock -/

section Controller

variable (cfg : Config) (a : Addr) (c ch : Nat) (w : Word) (t : F64) (p : List Byte)

@[simp] theorem autoseqTime_sval : (autoseqTime t s).sval = s.sval := by
  unfold autoseqTime; split_ifs <;> simp
@[simp] theorem autoseqTime_stime : (autoseqTime t s).stime = s.stime := by
  unfold autoseqTime; split_ifs <;> simp
@[simp] theorem autoseqTime_sledger : (autoseqTime t s).sledger = s.sledger := by
  unfold autoseqTime; split_ifs <;> simp
@[simp] theorem autoseqTime_rcLast : (autoseqTime t s).rcLast = s.rcLast := by
  unfold autoseqTime; split_ifs <;> simp
@[simp] theorem autoseqTime_rcAcc : (autoseqTime t s).rcAcc = s.rcAcc := by
  unfold autoseqTime; split_ifs <;> simp
@[simp] theorem autoseqTime_vpri : (autoseqTime t s).vpri = s.vpri := by
  unfold autoseqTime; split_ifs <;> simp
@[simp] theorem autoseqTime_veng : (autoseqTime t s).veng = s.veng := by
  unfold autoseqTime; split_ifs <;> simp
@[simp] theorem autoseqTime_vprop : (autoseqTime t s).vprop = s.vprop := by
  unfold autoseqTime; split_ifs <;> simp
@[simp] theorem autoseqTime_node : (autoseqTime t s).node = s.node := by
  unfold autoseqTime; split_ifs <;> simp
@[simp] theorem autoseqTime_cbank : (autoseqTime t s).cbank = s.cbank := by
  unfold autoseqTime; split_ifs <;> simp
@[simp] theorem autoseqTime_thr : (autoseqTime t s).thr = s.thr := by
  unfold autoseqTime; split_ifs <;> simp
@[simp] theorem autoseqTime_dbgLedger : (autoseqTime t s).dbgLedger = s.dbgLedger := by
  unfold autoseqTime; split_ifs <;> simp
@[simp] theorem autoseqTime_frameCount : (autoseqTime t s).frameCount = s.frameCount := by
  unfold autoseqTime; split_ifs <;> simp
@[simp] theorem autoseqTime_result : (autoseqTime t s).result = s.result := by
  unfold autoseqTime; split_ifs <;> simp
@[simp] theorem autoseqTime_inbox : (autoseqTime t s).inbox = s.inbox := by
  unfold autoseqTime; split_ifs <;> simp
@[simp] theorem autoseq_sval : (autoseq cfg p s).sval = s.sval := by
  unfold autoseq; split_ifs <;> simp
@[simp] theorem autoseq_stime : (autoseq cfg p s).stime = s.stime := by
  unfold autoseq; split_ifs <;> simp
@[simp] theorem autoseq_sledger : (autoseq cfg p s).sledger = s.sledger := by
  unfold autoseq; split_ifs <;> simp
@[simp] theorem autoseq_rcLast : (autoseq cfg p s).rcLast = s.rcLast := by
  unfold autoseq; split_ifs <;> simp
@[simp] theorem autoseq_rcAcc : (autoseq cfg p s).rcAcc = s.rcAcc := by
  unfold autoseq; split_ifs <;> simp
@[simp] theorem autoseq_vpri : (autoseq cfg p s).vpri = s.vpri := by
  unfold autoseq; split_ifs <;> simp
@[simp] theorem autoseq_veng : (autoseq cfg p s).veng = s.veng := by
  unfold autoseq; split_ifs <;> simp
@[simp] theorem autoseq_vprop : (autoseq cfg p s).vprop = s.vprop := by
  unfold autoseq; split_ifs <;> simp
@[simp] theorem autoseq_node : (autoseq cfg p s).node = s.node := by
  unfold autoseq; split_ifs <;> simp
@[simp] theorem autoseq_cbank : (autoseq cfg p s).cbank = s.cbank := by
  unfold autoseq; split_ifs <;> simp
@[simp] theorem autoseq_thr : (autoseq cfg p s).thr = s.thr := by
  unfold autoseq; split_ifs <;> simp
@[simp] theorem autoseq_dbgLedger : (autoseq cfg p s).dbgLedger = s.dbgLedger := by
  unfold autoseq; split_ifs <;> simp
@[simp] theorem autoseq_frameCount : (autoseq cfg p s).frameCount = s.frameCount := by
  unfold autoseq; split_ifs <;> simp
@[simp] theorem autoseq_inbox : (autoseq cfg p s).inbox = s.inbox := by
  unfold autoseq; split_ifs <;> simp
@[simp] theorem throttle_sval : (throttle cfg p s).sval = s.sval := by
  unfold throttle throttlePair2 throttleSentinel; split_ifs <;> simp
@[simp] theorem throttle_stime : (throttle cfg p s).stime = s.stime := by
  unfold throttle throttlePair2 throttleSentinel; split_ifs <;> simp
@[simp] theorem throttle_sledger : (throttle cfg p s).sledger = s.sledger := by
  unfold throttle throttlePair2 throttleSentinel; split_ifs <;> simp
@[simp] theorem throttle_rcLast : (throttle cfg p s).rcLast = s.rcLast := by
  unfold throttle throttlePair2 throttleSentinel; split_ifs <;> simp
@[simp] theorem throttle_rcAcc : (throttle cfg p s).rcAcc = s.rcAcc := by
  unfold throttle throttlePair2 throttleSentinel; split_ifs <;> simp
@[simp] theorem throttle_vpri : (throttle cfg p s).vpri = s.vpri := by
  unfold throttle throttlePair2 throttleSentinel; split_ifs <;> simp
@[simp] theorem throttle_veng : (throttle cfg p s).veng = s.veng := by
  unfold throttle throttlePair2 throttleSentinel; split_ifs <;> simp
@[simp] theorem throttle_vprop : (throttle cfg p s).vprop = s.vprop := by
  unfold throttle throttlePair2 throttleSentinel; split_ifs <;> simp
@[simp] theorem throttle_node : (throttle cfg p s).node = s.node := by
  unfold throttle throttlePair2 throttleSentinel; split_ifs <;> simp
@[simp] theorem throttle_cbank : (throttle cfg p s).cbank = s.cbank := by
  unfold throttle throttlePair2 throttleSentinel; split_ifs <;> simp
@[simp] theorem throttle_asValid : (throttle cfg p s).asValid = s.asValid := by
  unfold throttle throttlePair2 throttleSentinel; split_ifs <;> simp
@[simp] theorem throttle_asTime : (throttle cfg p s).asTime = s.asTime := by
  unfold throttle throttlePair2 throttleSentinel; split_ifs <;> simp
@[simp] theorem throttle_asDup : (throttle cfg p s).asDup = s.asDup := by
  unfold throttle throttlePair2 throttleSentinel; split_ifs <;> simp
@[simp] theorem throttle_asLedger : (throttle cfg p s).asLedger = s.asLedger := by
  unfold throttle throttlePair2 throttleSentinel; split_ifs <;> simp
@[simp] theorem throttle_dbgLedger : (throttle cfg p s).dbgLedger = s.dbgLedger := by
  unfold throttle throttlePair2 throttleSentinel; split_ifs <;> simp
@[simp] theorem throttle_frameCount : (throttle cfg p s).frameCount = s.frameCount := by
  unfold throttle throttlePair2 throttleSentinel; split_ifs <;> simp
@[simp] theorem throttle_inbox : (throttle cfg p s).inbox = s.inbox := by
  unfold throttle throttlePair2 throttleSentinel; split_ifs <;> simp
@[simp] theorem ctrlWrite_sval : (ctrlWrite c ch w s).sval = s.sval := by
  unfold ctrlWrite; split_ifs <;> simp
@[simp] theorem ctrlWrite_stime : (ctrlWrite c ch w s).stime = s.stime := by
  unfold ctrlWrite; split_ifs <;> simp
@[simp] theorem ctrlWrite_sledger : (ctrlWrite c ch w s).sledger = s.sledger := by
  unfold ctrlWrite; split_ifs <;> simp
@[simp] theorem ctrlWrite_rcLast : (ctrlWrite c ch w s).rcLast = s.rcLast := by
  unfold ctrlWrite; split_ifs <;> simp
@[simp] theorem ctrlWrite_rcAcc : (ctrlWrite c ch w s).rcAcc = s.rcAcc := by
  unfold ctrlWrite; split_ifs <;> simp
@[simp] theorem ctrlWrite_vpri : (ctrlWrite c ch w s).vpri = s.vpri := by
  unfold ctrlWrite; split_ifs <;> simp
@[simp] theorem ctrlWrite_veng : (ctrlWrite c ch w s).veng = s.veng := by
  unfold ctrlWrite; split_ifs <;> simp
@[simp] theorem ctrlWrite_vprop : (ctrlWrite c ch w s).vprop = s.vprop := by
  unfold ctrlWrite; split_ifs <;> simp
@[simp] theorem ctrlWrite_node : (ctrlWrite c ch w s).node = s.node := by
  unfold ctrlWrite; split_ifs <;> simp
@[simp] theorem ctrlWrite_asValid : (ctrlWrite c ch w s).asValid = s.asValid := by
  unfold ctrlWrite; split_ifs <;> simp
@[simp] theorem ctrlWrite_asTime : (ctrlWrite c ch w s).asTime = s.asTime := by
  unfold ctrlWrite; split_ifs <;> simp
@[simp] theorem ctrlWrite_asDup : (ctrlWrite c ch w s).asDup = s.asDup := by
  unfold ctrlWrite; split_ifs <;> simp
@[simp] theorem ctrlWrite_asLedger : (ctrlWrite c ch w s).asLedger = s.asLedger := by
  unfold ctrlWrite; split_ifs <;> simp
@[simp] theorem ctrlWrite_thr : (ctrlWrite c ch w s).thr = s.thr := by
  unfold ctrlWrite; split_ifs <;> simp
@[simp] theorem ctrlWrite_dbgLedger : (ctrlWrite c ch w s).dbgLedger = s.dbgLedger := by
  unfold ctrlWrite; split_ifs <;> simp
@[simp] theorem ctrlWrite_frameCount : (ctrlWrite c ch w s).frameCount = s.frameCount := by
  unfold ctrlWrite; split_ifs <;> simp
@[simp] theorem ctrlWrite_inbox : (ctrlWrite c ch w s).inbox = s.inbox := by
  unfold ctrlWrite; split_ifs <;> simp
@[simp] theorem genericAt_sval : (genericAt cfg c ch p s).sval = s.sval := by
  unfold genericAt; split_ifs <;> simp
@[simp] theorem genericAt_stime : (genericAt cfg c ch p s).stime = s.stime := by
  unfold genericAt; split_ifs <;> simp
@[simp] theorem genericAt_sledger : (genericAt cfg c ch p s).sledger = s.sledger := by
  unfold genericAt; split_ifs <;> simp
@[simp] theorem genericAt_rcLast : (genericAt cfg c ch p s).rcLast = s.rcLast := by
  unfold genericAt; split_ifs <;> simp
@[simp] theorem genericAt_rcAcc : (genericAt cfg c ch p s).rcAcc = s.rcAcc := by
  unfold genericAt; split_ifs <;> simp
@[simp] theorem genericAt_vpri : (genericAt cfg c ch p s).vpri = s.vpri := by
  unfold genericAt; split_ifs <;> simp
@[simp] theorem genericAt_veng : (genericAt cfg c ch p s).veng = s.veng := by
  unfold genericAt; split_ifs <;> simp
@[simp] theorem genericAt_vprop : (genericAt cfg c ch p s).vprop = s.vprop := by
  unfold genericAt; split_ifs <;> simp
@[simp] theorem genericAt_node : (genericAt cfg c ch p s).node = s.node := by
  unfold genericAt; split_ifs <;> simp
@[simp] theorem genericAt_asValid : (genericAt cfg c ch p s).asValid = s.asValid := by
  unfold genericAt; split_ifs <;> simp
@[simp] theorem genericAt_asTime : (genericAt cfg c ch p s).asTime = s.asTime := by
  unfold genericAt; split_ifs <;> simp
@[simp] theorem genericAt_asDup : (genericAt cfg c ch p s).asDup = s.asDup := by
  unfold genericAt; split_ifs <;> simp
@[simp] theorem genericAt_asLedger : (genericAt cfg c ch p s).asLedger = s.asLedger := by
  unfold genericAt; split_ifs <;> simp
@[simp] theorem genericAt_thr : (genericAt cfg c ch p s).thr = s.thr := by
  unfold genericAt; split_ifs <;> simp
@[simp] theorem genericAt_dbgLedger : (genericAt cfg c ch p s).dbgLedger = s.dbgLedger := by
  unfold genericAt; split_ifs <;> simp
@[simp] theorem genericAt_frameCount : (genericAt cfg c ch p s).frameCount = s.frameCount := by
  unfold genericAt; split_ifs <;> simp
@[simp] theorem genericAt_inbox : (genericAt cfg c ch p s).inbox = s.inbox := by
  unfold genericAt; split_ifs <;> simp
@[simp] theorem genericOrIgnored_sval : (genericOrIgnored cfg a p s).sval = s.sval := by
  unfold genericOrIgnored generic; split_ifs <;> simp
@[simp] theorem genericOrIgnored_stime : (genericOrIgnored cfg a p s).stime = s.stime := by
  unfold genericOrIgnored generic; split_ifs <;> simp
@[simp] theorem genericOrIgnored_sledger : (genericOrIgnored cfg a p s).sledger = s.sledger := by
  unfold genericOrIgnored generic; split_ifs <;> simp
@[simp] theorem genericOrIgnored_rcLast : (genericOrIgnored cfg a p s).rcLast = s.rcLast := by
  unfold genericOrIgnored generic; split_ifs <;> simp
@[simp] theorem genericOrIgnored_rcAcc : (genericOrIgnored cfg a p s).rcAcc = s.rcAcc := by
  unfold genericOrIgnored generic; split_ifs <;> simp
@[simp] theorem genericOrIgnored_vpri : (genericOrIgnored cfg a p s).vpri = s.vpri := by
  unfold genericOrIgnored generic; split_ifs <;> simp
@[simp] theorem genericOrIgnored_veng : (genericOrIgnored cfg a p s).veng = s.veng := by
  unfold genericOrIgnored generic; split_ifs <;> simp
@[simp] theorem genericOrIgnored_vprop : (genericOrIgnored cfg a p s).vprop = s.vprop := by
  unfold genericOrIgnored generic; split_ifs <;> simp
@[simp] theorem genericOrIgnored_node : (genericOrIgnored cfg a p s).node = s.node := by
  unfold genericOrIgnored generic; split_ifs <;> simp
@[simp] theorem genericOrIgnored_asValid : (genericOrIgnored cfg a p s).asValid = s.asValid := by
  unfold genericOrIgnored generic; split_ifs <;> simp
@[simp] theorem genericOrIgnored_asTime : (genericOrIgnored cfg a p s).asTime = s.asTime := by
  unfold genericOrIgnored generic; split_ifs <;> simp
@[simp] theorem genericOrIgnored_asDup : (genericOrIgnored cfg a p s).asDup = s.asDup := by
  unfold genericOrIgnored generic; split_ifs <;> simp
@[simp] theorem genericOrIgnored_asLedger : (genericOrIgnored cfg a p s).asLedger = s.asLedger := by
  unfold genericOrIgnored generic; split_ifs <;> simp
@[simp] theorem genericOrIgnored_thr : (genericOrIgnored cfg a p s).thr = s.thr := by
  unfold genericOrIgnored generic; split_ifs <;> simp
@[simp] theorem genericOrIgnored_dbgLedger : (genericOrIgnored cfg a p s).dbgLedger = s.dbgLedger := by
  unfold genericOrIgnored generic; split_ifs <;> simp
@[simp] theorem genericOrIgnored_frameCount : (genericOrIgnored cfg a p s).frameCount = s.frameCount := by
  unfold genericOrIgnored generic; split_ifs <;> simp
@[simp] theorem genericOrIgnored_inbox : (genericOrIgnored cfg a p s).inbox = s.inbox := by
  unfold genericOrIgnored generic; split_ifs <;> simp
@[simp] theorem clock_sval : (clock cfg p s).sval = s.sval := by
  simp [clock]
@[simp] theorem clock_stime : (clock cfg p s).stime = s.stime := by
  simp [clock]
@[simp] theorem clock_sledger : (clock cfg p s).sledger = s.sledger := by
  simp [clock]
@[simp] theorem clock_rcLast : (clock cfg p s).rcLast = s.rcLast := by
  simp [clock]
@[simp] theorem clock_rcAcc : (clock cfg p s).rcAcc = s.rcAcc := by
  simp [clock]
@[simp] theorem clock_vpri : (clock cfg p s).vpri = s.vpri := by
  simp [clock]
@[simp] theorem clock_veng : (clock cfg p s).veng = s.veng := by
  simp [clock]
@[simp] theorem clock_vprop : (clock cfg p s).vprop = s.vprop := by
  simp [clock]
@[simp] theorem clock_node : (clock cfg p s).node = s.node := by
  simp [clock]
@[simp] theorem clock_cbank : (clock cfg p s).cbank = s.cbank := by
  simp [clock]
@[simp] theorem clock_asValid : (clock cfg p s).asValid = s.asValid := by
  simp [clock]
@[simp] theorem clock_asTime : (clock cfg p s).asTime = s.asTime := by
  simp [clock]
@[simp] theorem clock_asDup : (clock cfg p s).asDup = s.asDup := by
  simp [clock]
@[simp] theorem clock_asLedger : (clock cfg p s).asLedger = s.asLedger := by
  simp [clock]
@[simp] theorem clock_thr : (clock cfg p s).thr = s.thr := by
  simp [clock]
@[simp] theorem clock_frameCount : (clock cfg p s).frameCount = s.frameCount := by
  simp [clock]
@[simp] theorem clock_inbox : (clock cfg p s).inbox = s.inbox := by
  simp [clock]
@[simp] theorem clock_dbgLedger : (clock cfg p s).dbgLedger = s.dbgLedger ++ [debugRecord cfg p s] := by
  simp [clock]

end Controller

/-! ### The node tracker -/

section Node

variable (cfg : Config) (n : Nat) (a : Addr) (p : List Byte)

@[simp] theorem nodeUpdate_sval : (nodeUpdate n p s).sval = s.sval := by
  unfold nodeUpdate; repeat' split
  all_goals simp
@[simp] theorem node_sval : (node cfg a p s).sval = s.sval := by
  unfold node; split <;> simp
@[simp] theorem nodeUpdate_stime : (nodeUpdate n p s).stime = s.stime := by
  unfold nodeUpdate; repeat' split
  all_goals simp
@[simp] theorem node_stime : (node cfg a p s).stime = s.stime := by
  unfold node; split <;> simp
@[simp] theorem nodeUpdate_sledger : (nodeUpdate n p s).sledger = s.sledger := by
  unfold nodeUpdate; repeat' split
  all_goals simp
@[simp] theorem node_sledger : (node cfg a p s).sledger = s.sledger := by
  unfold node; split <;> simp
@[simp] theorem nodeUpdate_rcLast : (nodeUpdate n p s).rcLast = s.rcLast := by
  unfold nodeUpdate; repeat' split
  all_goals simp
@[simp] theorem node_rcLast : (node cfg a p s).rcLast = s.rcLast := by
  unfold node; split <;> simp
@[simp] theorem nodeUpdate_rcAcc : (nodeUpdate n p s).rcAcc = s.rcAcc := by
  unfold nodeUpdate; repeat' split
  all_goals simp
@[simp] theorem node_rcAcc : (node cfg a p s).rcAcc = s.rcAcc := by
  unfold node; split <;> simp
@[simp] theorem nodeUpdate_vpri : (nodeUpdate n p s).vpri = s.vpri := by
  unfold nodeUpdate; repeat' split
  all_goals simp
@[simp] theorem node_vpri : (node cfg a p s).vpri = s.vpri := by
  unfold node; split <;> simp
@[simp] theorem nodeUpdate_veng : (nodeUpdate n p s).veng = s.veng := by
  unfold nodeUpdate; repeat' split
  all_goals simp
@[simp] theorem node_veng : (node cfg a p s).veng = s.veng := by
  unfold node; split <;> simp
@[simp] theorem nodeUpdate_vprop : (nodeUpdate n p s).vprop = s.vprop := by
  unfold nodeUpdate; repeat' split
  all_goals simp
@[simp] theorem node_vprop : (node cfg a p s).vprop = s.vprop := by
  unfold node; split <;> simp
@[simp] theorem nodeUpdate_cbank : (nodeUpdate n p s).cbank = s.cbank := by
  unfold nodeUpdate; repeat' split
  all_goals simp
@[simp] theorem node_cbank : (node cfg a p s).cbank = s.cbank := by
  unfold node; split <;> simp
@[simp] theorem nodeUpdate_asValid : (nodeUpdate n p s).asValid = s.asValid := by
  unfold nodeUpdate; repeat' split
  all_goals simp
@[simp] theorem node_asValid : (node cfg a p s).asValid = s.asValid := by
  unfold node; split <;> simp
@[simp] theorem nodeUpdate_asTime : (nodeUpdate n p s).asTime = s.asTime := by
  unfold nodeUpdate; repeat' split
  all_goals simp
@[simp] theorem node_asTime : (node cfg a p s).asTime = s.asTime := by
  unfold node; split <;> simp
@[simp] theorem nodeUpdate_asDup : (nodeUpdate n p s).asDup = s.asDup := by
  unfold nodeUpdate; repeat' split
  all_goals simp
@[simp] theorem node_asDup : (node cfg a p s).asDup = s.asDup := by
  unfold node; split <;> simp
@[simp] theorem nodeUpdate_asLedger : (nodeUpdate n p s).asLedger = s.asLedger := by
  unfold nodeUpdate; repeat' split
  all_goals simp
@[simp] theorem node_asLedger : (node cfg a p s).asLedger = s.asLedger := by
  unfold node; split <;> simp
@[simp] theorem nodeUpdate_thr : (nodeUpdate n p s).thr = s.thr := by
  unfold nodeUpdate; repeat' split
  all_goals simp
@[simp] theorem node_thr : (node cfg a p s).thr = s.thr := by
  unfold node; split <;> simp
@[simp] theorem nodeUpdate_dbgLedger : (nodeUpdate n p s).dbgLedger = s.dbgLedger := by
  unfold nodeUpdate; repeat' split
  all_goals simp
@[simp] theorem node_dbgLedger : (node cfg a p s).dbgLedger = s.dbgLedger := by
  unfold node; split <;> simp
@[simp] theorem nodeUpdate_frameCount : (nodeUpdate n p s).frameCount = s.frameCount := by
  unfold nodeUpdate; repeat' split
  all_goals simp
@[simp] theorem node_frameCount : (node cfg a p s).frameCount = s.frameCount := by
  unfold node; split <;> simp
@[simp] theorem nodeUpdate_inbox : (nodeUpdate n p s).inbox = s.inbox := by
  unfold nodeUpdate; repeat' split
  all_goals simp
@[simp] theorem node_inbox : (node cfg a p s).inbox = s.inbox := by
  unfold node; split <;> simp

end Node

/-! ### Whatever handler runs, the frame counter and the host's queue are not the handler's -/

@[simp] theorem ctrl_frameCount (cfg : Config) (a : Addr) (p : List Byte) : (ctrl cfg a p s).frameCount = s.frameCount := by
  unfold ctrl; split_ifs <;> simp
@[simp] theorem runHandler_frameCount (cfg : Config) (h : Handler) (f : RawFrame) :
    (runHandler cfg h f s).frameCount = s.frameCount := by
  cases h with
  | valveEng => simp [runHandler]
  | valvePri => simp [runHandler]
  | valveProp => simp [runHandler]
  | clock => simp [runHandler]
  | sensor => simp [runHandler]
  | ctrl => simp [runHandler]
@[simp] theorem nodeThenCascade_frameCount (cfg : Config) (a : Addr) (p : List Byte) :
    (nodeThenCascade cfg a p s).frameCount = s.frameCount := by
  unfold nodeThenCascade cascade; split <;> simp
/-- The work of an instruction leaves this field alone. -/
@[simp] theorem workOf_frameCount (i : Instr) : (workOf i s).frameCount = s.frameCount := by
  cases i <;> simp [workOf]

@[simp] theorem ctrl_inbox (cfg : Config) (a : Addr) (p : List Byte) : (ctrl cfg a p s).inbox = s.inbox := by
  unfold ctrl; split_ifs <;> simp
@[simp] theorem runHandler_inbox (cfg : Config) (h : Handler) (f : RawFrame) :
    (runHandler cfg h f s).inbox = s.inbox := by
  cases h with
  | valveEng => simp [runHandler]
  | valvePri => simp [runHandler]
  | valveProp => simp [runHandler]
  | clock => simp [runHandler]
  | sensor => simp [runHandler]
  | ctrl => simp [runHandler]
@[simp] theorem nodeThenCascade_inbox (cfg : Config) (a : Addr) (p : List Byte) :
    (nodeThenCascade cfg a p s).inbox = s.inbox := by
  unfold nodeThenCascade cascade; split <;> simp
/-- The work of an instruction leaves this field alone. -/
@[simp] theorem workOf_inbox (i : Instr) : (workOf i s).inbox = s.inbox := by
  cases i <;> simp [workOf]

/-! ### The address arithmetic and the routing at the default literals -/

/-- The priority list at the default literals (40_dispatch.md R112). -/
theorem route_config (a : Addr) (depth : Nat) :
    route config a depth =
      if a.toNat = 268 then .handler .clock
      else if a.toNat = 546 then .handler .valveEng
      else if a.toNat = 552 then .handler .valvePri
      else if a.toNat = 547 then .handler .valveProp
      else if 510 < a.toNat ∧ a.toNat < 530 ∧ depth = 0 then .nodeThenCascade
      else if 50 < a.toNat ∧ a.toNat < 427 then .handler .sensor
      else if 1000 < a.toNat then .handler .ctrl
      else .nowhere := by rfl

/-- The controller sub-dispatch at the default literals (44_controller.md R180). -/
theorem ctrl_config (a : Addr) (p : List Byte) :
    ctrl config a p s =
      if a.toNat = 1100 then autoseq config p s
      else if a.toNat = 1506 then throttle config p s
      else genericOrIgnored config a p s := (rfl)

/-- The node an address names at the default literals (43_node_state.md R170). -/
theorem nodeIndexOf_config (n : Nat) :
    nodeIndexOf config n =
      if n = 514 then some 0 else if n = 515 then some 1 else if n = 520 then some 2 else none := rfl

/-- The rounded address at the default literals and tie (44_controller.md R201). -/
theorem roundAddress_config (n : Nat) :
    roundAddress config n =
      if 2 * (n % 100) < 100 then n - n % 100
      else if 100 < 2 * (n % 100) then n - n % 100 + 100
      else if (n - n % 100) / 100 % 2 = 0 then n - n % 100 else n - n % 100 + 100 := rfl

/-- The controller id at the default literals (44_controller.md R200). -/
theorem controllerOf_config (n : Nat) : controllerOf config n = (roundAddress config n - 1000) / 100 := rfl

/-- The channel index at the default literals (44_controller.md R200). -/
theorem channelOf_config (n : Nat) : channelOf config n = n % 100 := rfl

/-- The kind of an eight-byte frame at the default literals (44_controller.md R202). -/
theorem intendedKind_config (n : Nat) :
    intendedKind config n 8 =
      if n = 1502 ∨ n = 1504 then some .i32
      else if n % 100 = 14 ∨ n % 100 = 15 then some .u32 else some .f32 := rfl

end Sys2Proof.Machine
end

