-- ==== Sys2Proof/Laws/PerInstr.lean ====
section
/-! SUPPORT. Statements made once per constructor of Instr. EncodeClass: the address that the encoder writes for a
well-formed instruction selects the instruction's own class (30_encoding.md R91, R92). -/

namespace Sys2Proof.Laws.EncodeClass

/-- The identifier of a well-formed instruction selects its class. -/
def Statement (i : Instr) : Prop :=
  i.wellFormed = true → classOf config (addrOf i.identifier) = i.frameClass

theorem ignore (a : Addr) (p : List Byte) : Statement (.ignore a p) := by
  intro h
  simp only [Instr.wellFormed, Instr.addressOk, Bool.and_eq_true] at h
  rw [Instr.identifier, addrOf_plainId]
  exact classOf_ignore a h.2

theorem sensor (a : Addr) (cnt : BitVec 21) (p : List Byte) : Statement (.sensor a cnt p) := by
  intro h
  simp only [Instr.wellFormed, Instr.addressOk, Bool.and_eq_true] at h
  rw [Instr.identifier, addrOf_sensorId]
  exact classOf_sensor a h.2

theorem clock (p : List Byte) : Statement (.clock p) := fun _ => by rfl

theorem nodeNop (a : Addr) (p : List Byte) : Statement (.nodeNop a p) := by
  intro h
  simp only [Instr.wellFormed, Instr.addressOk, Bool.and_eq_true] at h
  rw [Instr.identifier, addrOf_plainId]
  exact classOf_nodeNop a h.2

theorem node514 (p : List Byte) : Statement (.node514 p) := fun _ => by rfl

theorem node515 (p : List Byte) : Statement (.node515 p) := fun _ => by rfl

theorem node520 (p : List Byte) : Statement (.node520 p) := fun _ => by rfl

theorem valveEng (f1 f2 : Byte) (p : List Byte) : Statement (.valveEng f1 f2 p) := by
  intro _
  simp only [Instr.identifier, Instr.frameClass, classOf_config,
    addrOf_valveId_toNat config.valveEngAddr f1 f2 (by decide)]
  rfl

theorem valvePri (f1 f2 : Byte) (p : List Byte) : Statement (.valvePri f1 f2 p) := by
  intro _
  simp only [Instr.identifier, Instr.frameClass, classOf_config,
    addrOf_valveId_toNat config.valvePriAddr f1 f2 (by decide)]
  rfl

theorem valveProp (f1 f2 : Byte) (p : List Byte) : Statement (.valveProp f1 f2 p) := by
  intro _
  simp only [Instr.identifier, Instr.frameClass, classOf_config,
    addrOf_valveId_toNat config.valvePropAddr f1 f2 (by decide)]
  rfl

theorem autoseq (p : List Byte) : Statement (.autoseq p) := fun _ => by rfl

theorem throttle (p : List Byte) : Statement (.throttle p) := fun _ => by rfl

theorem ctrlI32 (a : Addr) (p : List Byte) : Statement (.ctrlI32 a p) := by
  intro h
  simp only [Instr.wellFormed, Instr.addressOk, Bool.and_eq_true] at h
  rw [Instr.identifier, addrOf_plainId]
  exact classOf_ctrlI32 a h.2

theorem ctrlU32 (a : Addr) (p : List Byte) : Statement (.ctrlU32 a p) := by
  intro h
  simp only [Instr.wellFormed, Instr.addressOk, Bool.and_eq_true] at h
  rw [Instr.identifier, addrOf_plainId]
  exact classOf_ctrlU32 a h.2

theorem ctrlF32 (a : Addr) (p : List Byte) : Statement (.ctrlF32 a p) := by
  intro h
  simp only [Instr.wellFormed, Instr.addressOk, Bool.and_eq_true] at h
  rw [Instr.identifier, addrOf_plainId]
  exact classOf_ctrlF32 a h.2

end Sys2Proof.Laws.EncodeClass
end

