-- ==== Sys2Proof/Laws/Step.lean ====
section
/-! SUPPORT. What one step can do. -/

namespace Sys2Proof.Machine

/-- If a step answers a next state, the block waited, performed a decoded frame, or was reset. -/
theorem step_next_cases {s t : State} (h : step s = .next t) :
    (s.inbox = [] ∧ t = s) ∨
    (∃ f rest i, s.inbox = .frame f :: rest ∧ decode f = .ok i ∧ exec i { s with inbox := rest } = .next t) ∨
    (∃ rest, s.inbox = .reset :: rest ∧ t = resetSession { s with inbox := rest }) := by
  unfold step at h
  split at h
  · rename_i hin
    injection h with h
    exact .inl ⟨hin, h.symm⟩
  · rename_i op rest hin
    cases op with
    | frame f =>
      cases hd : decode f with
      | ok i => exact .inr (.inl ⟨f, rest, i, hin, hd, by simpa [perform, pushFrame, hd] using h⟩)
      | error e => simp [perform, pushFrame, hd] at h
    | reset =>
      injection h with h
      exact .inr (.inr ⟨rest, hin, h.symm⟩)

/-- A step faults never at the default configuration. -/
theorem step_ne_fault (s : State) (r : Fault) : step s ≠ .fault r := by
  unfold step
  split
  · simp
  · rename_i op rest _
    cases op with
    | reset => simp [perform]
    | frame f => cases hd : decode f <;> simp [perform, pushFrame, hd, exec_eq]

/-- Reset leaves the reset store, and the host's queue as it was. -/
theorem resetSession_eq (s : State) : resetSession s = { State.reset with inbox := s.inbox } := rfl

end Sys2Proof.Machine
end

