-- ==== Sys2Proof/Tests/Slice0.lean ====
section
/-! SUPPORT. Small tests. Expected values come from spec/: the worked examples of the family files and
95_test_vectors.md, named at each test. After them, for every statement with hypotheses, a witness that something
meets them, one at each clause's boundary. -/

namespace Sys2Proof.Tests

open Sys2Proof.Machine Sys2Proof.Claims

/-- The state with one frame waiting. -/
def waiting (f : RawFrame) (s : State) : State := { s with inbox := [.frame f] }

/-- The state one frame later. -/
def after (f : RawFrame) (s : State) : State :=
  match step (waiting f s) with
  | .next t => t
  | .fault _ => s
  | .refused _ => s

/-! ### Ill-formed terms, one for each check of WellFormed -/

theorem test_refuses_nine_bytes : (Instr.clock [1, 2, 3, 4, 5, 6, 7, 8, 9]).wellFormed = false := by decide
theorem test_refuses_ignore_address : (Instr.ignore 51 []).wellFormed = false := by decide
theorem test_refuses_sensor_address : (Instr.sensor 268 0 [1, 2]).wellFormed = false := by decide
theorem test_refuses_node_nop_address : (Instr.nodeNop 514 []).wellFormed = false := by decide
theorem test_refuses_i32_address : (Instr.ctrlI32 1503 []).wellFormed = false := by decide
theorem test_refuses_u32_address : (Instr.ctrlU32 1516 []).wellFormed = false := by decide
theorem test_refuses_f32_address : (Instr.ctrlF32 1100 []).wellFormed = false := by decide

/-! ### Decoding, one word written out for every constructor (95_test_vectors.md V-DISP, 30_encoding.md) -/

theorem test_decode_ignore : decode ⟨0x000001FE, [5]⟩ = .ok (.ignore 510 [5]) := by decide
theorem test_decode_sensor : decode ⟨0x1FFFF9AA, [0, 1]⟩ = .ok (.sensor 426 0x3FFFF [0, 1]) := by decide
theorem test_decode_clock : decode ⟨0xFFFFF90C, [1]⟩ = .ok (.clock [1]) := by decide
theorem test_decode_nodeNop : decode ⟨0x00000211, [3]⟩ = .ok (.nodeNop 529 [3]) := by decide
theorem test_decode_node514 : decode ⟨0xFFFFF202, [5]⟩ = .ok (.node514 [5]) := by decide
theorem test_decode_node515 : decode ⟨0x00000203, [6]⟩ = .ok (.node515 [6]) := by decide
theorem test_decode_node520 : decode ⟨0x00000208, [1]⟩ = .ok (.node520 [1]) := by decide
theorem test_decode_valveEng : decode ⟨0x08001222, [1]⟩ = .ok (.valveEng 0x01 0x80 [1]) := by decide
theorem test_decode_valvePri : decode ⟨0xF0000A28, []⟩ = .ok (.valvePri 0 0 []) := by decide
theorem test_decode_valveProp : decode ⟨0x04812223, []⟩ = .ok (.valveProp 0x12 0x48 []) := by decide
theorem test_decode_autoseq : decode ⟨0xFFFFFC4C, [0xFF]⟩ = .ok (.autoseq [0xFF]) := by decide
theorem test_decode_throttle : decode ⟨0x000005E2, [0, 0, 0, 10]⟩ = .ok (.throttle [0, 0, 0, 10]) := by decide
theorem test_decode_ctrlI32 : decode ⟨0x000005DE, []⟩ = .ok (.ctrlI32 1502 []) := by decide
theorem test_decode_ctrlU32 : decode ⟨0x000007DF, []⟩ = .ok (.ctrlU32 2015 []) := by decide
theorem test_decode_ctrlF32 : decode ⟨0x12345678, []⟩ = .ok (.ctrlF32 1656 []) := by decide
theorem test_decode_nine_bytes :
    decode ⟨0, [1, 2, 3, 4, 5, 6, 7, 8, 9]⟩ = .error .payloadTooLong := by decide
/-- 30_encoding.md R100: id = rev8(c2) x 2^20 + rev8(c1) x 2^12 + 547. -/
theorem test_encode_valveProp : encode (.valveProp 0x12 0x48 [7]) = ⟨0x04812223, [7]⟩ := by decide
/-- 30_encoding.md R100: id = cnt x 2048 + a. -/
theorem test_encode_sensor : encode (.sensor 100 0x10000 [1, 2]) = ⟨0x08000064, [1, 2]⟩ := by decide
theorem test_table_word : decodeTableWord 32 0x10C = some (.clock [0, 0, 0, 0, 0, 0, 0, 0]) := by decide

/-! ### One step each -/

/-- 40_dispatch.md R120. -/
theorem test_ignore : (after ⟨0x32, [1, 2, 3, 4, 5, 6, 7, 8]⟩ State.reset).result = .ignored ∧
    (after ⟨0x32, [1, 2, 3, 4, 5, 6, 7, 8]⟩ State.reset).frameCount = 1 := by decide
/-- 41_sensor.md R145, first two rows: a wrap on the second frame. -/
theorem test_sensor_wrap :
    (after ⟨0x04000064, [0xAB, 0xCD]⟩ (after ⟨0x08000064, [0x12, 0x34]⟩ State.reset)).sledger[100] =
      [⟨0x3F347AE147AE147B, 4660⟩, ⟨0x3F570A3D70A3D70A, 43981⟩] := by decide +kernel
/-- 95_test_vectors.md V-SENSOR-6: three groups of one sensor. -/
theorem test_sensor_three_groups :
    (after ⟨0x08000064, [0, 1, 0x64, 0, 2, 0x64, 0, 3]⟩ State.reset).sval[100] = 3 ∧
    ((after ⟨0x08000064, [0, 1, 0x64, 0, 2, 0x64, 0, 3]⟩ State.reset).sledger[100]).length = 3 := by
  decide +kernel
/-- 45_clock_debug.md R227, row 4: two roundings. -/
theorem test_clock_all_ones :
    (after ⟨0x10C, [0xFF, 0xFF, 0xFF, 0xFF, 0xFF, 0xFF, 0xFF, 0xFF]⟩ State.reset).dbgLedger =
      [⟨0, 4294967295, 4294967295, 0x41F000010C5F7A0A⟩] := by decide +kernel
/-- 45_clock_debug.md R227, row 6: missing bytes are absent high bytes. -/
theorem test_clock_six_bytes :
    (after ⟨0x10C, [0x0A, 0, 0, 0, 0x90, 0xD0]⟩ State.reset).dbgLedger =
      [⟨0, 10, 53392, 0x40241B56323BBC6F⟩] := by decide +kernel
/-- 95_test_vectors.md V-NODE-3. -/
theorem test_nodeNop : (after ⟨0x204, [3]⟩ State.reset).result = .ignored := by decide
/-- 95_test_vectors.md V-NODE-1, indices 0C and 0D. -/
theorem test_node514_fire : (after ⟨0x202, [0x0C]⟩ State.reset).node[0] = .fire := by decide
theorem test_node514_bad : (after ⟨0x202, [0x0D]⟩ State.reset).result = .badEnum 13 := by decide
theorem test_node515 : (after ⟨0x203, [6]⟩ State.reset).node[1] = .offNominal := by decide
theorem test_node520 : (after ⟨0x208, [4, 0xFF]⟩ State.reset).node[2] = .abort := by decide
/-- 42_valve.md R162, rows 2 and 3: the engine bank stores a zero channel 1. -/
theorem test_valveEng : (after ⟨0x08001222, [1, 0]⟩ State.reset).veng[1] = 128 ∧
    (after ⟨0x222, []⟩ (after ⟨0x08001222, [1, 0]⟩ State.reset)).veng[1] = 0 := by decide +kernel
/-- 42_valve.md R162, rows 4 and 5: the primary bank keeps it. -/
theorem test_valvePri_keeps :
    (after ⟨0x228, []⟩ (after ⟨0x08001228, [1]⟩ State.reset)).vpri[1] = 128 := by decide +kernel
/-- 95_test_vectors.md V-VALVE-8. -/
theorem test_valveProp : (after ⟨0x04812223, [9, 8, 7]⟩ State.reset).vprop[1] = 72 ∧
    (after ⟨0x04812223, [9, 8, 7]⟩ State.reset).vprop[5] = 7 := by decide +kernel
/-- 95_test_vectors.md V-AUTOSEQ-1, the largest integer and 2^53 + 1: one rounding. -/
theorem test_autoseq_rounding : autoseqSeconds config 9223372036854775807 = 0x42A0C6F7A0B5ED8D ∧
    autoseqSeconds config 9007199254740993 = 0x4200C6F7A0B5ED8E := by decide +kernel
/-- 44_controller.md R189: the snapshot of the largest sensor time, and a negative time. -/
theorem test_autoseq_snapshot :
    (after ⟨0x44C, [0xFF, 0xF0, 0xBD, 0xC0]⟩ (after ⟨0x08000064, [0x12, 0x34]⟩ State.reset)).asLedger =
      [⟨0x3F347AE147AE147B, 0xBFF0000000000000⟩] := by decide +kernel
/-- 95_test_vectors.md V-THR-3. -/
theorem test_throttle : (after ⟨0x5E2, [0, 0, 0xFF, 0xFF, 0, 0, 0, 0]⟩
    (after ⟨0x5E2, [0, 10, 0, 1]⟩ State.reset)).thr = [⟨0, 65535⟩, ⟨0, 0⟩] := by decide +kernel
/-- 44_controller.md R203. -/
theorem test_ctrlI32 : (after ⟨0x5DE, [0xFF, 0xFF, 0xFF, 0xFE, 0, 0, 0, 7]⟩ State.reset).cbank[5][3] = 7 ∧
    viewWord .i32 0xFFFFFFFE = .signed (-2) := by decide +kernel
/-- 44_controller.md R204. -/
theorem test_ctrlU32 :
    (after ⟨0x5EA, [0xDE, 0xAD, 0xBE, 0xEF, 0, 0, 0, 1]⟩ State.reset).cbank[5][14] = 0xDEADBEEF := by
  decide +kernel
/-- 95_test_vectors.md V-CTRL-6: 1149 writes channel 49 and drops channel 50. -/
theorem test_ctrlF32_range :
    (after ⟨0x47D, [0, 0, 0, 0x2A, 0, 0, 0, 0x2B]⟩ State.reset).cbank[1][49] = 0x2A ∧
    (after ⟨0x47D, [0, 0, 0, 0x2A, 0, 0, 0, 0x2B]⟩ State.reset).result = .range 1 50 := by decide +kernel
/-- 95_test_vectors.md V-CTRL-6: 1950, a tie, goes to the even hundred. -/
theorem test_ctrlF32_tie :
    (after ⟨0x79E, [0x77, 0x77, 0x77, 0x77]⟩ State.reset).result = .range 10 50 := by decide +kernel
/-- 45_clock_debug.md R223: the constant. -/
theorem test_micro : F64.nearest false 1 config.microDen = 0x3EB0C6F7A0B5ED8D := by decide +kernel
/-- A reset begins a new session (70_reset_and_hazards.md R260). -/
theorem test_reset : step { after ⟨0x202, [0x0C]⟩ State.reset with inbox := [.reset] } = .next State.reset := rfl
/-- 95_test_vectors.md section 4: alternatives of the parameters. -/
theorem test_parameter_alternatives :
    valveField2 { valveCh2Field := .bits11to4 } 0x04812222 = 0x22 ∧
    ctrlWordAt { ctrlByteOrder := .littleEndian } [1, 0, 0, 0] 0 = 1 ∧
    rawTime { sensorTsBits := 18 } 0x1FFFFF = rawTime config 0x3FFFF ∧
    controllerOf { roundTie := .halfUp } 1050 = 1 ∧
    throttlePointAt { ctrlByteOrder := .littleEndian } [1, 2, 10, 0] 0 = ⟨0x0102, 10⟩ := by decide +kernel
/-- 95_test_vectors.md section 4, the parameters of the reset store: the first clock frame of a session is numbered
FRAME_COUNT_BASE, a first autosequence time of 0 is a duplicate, and RESET_VALUES is the store itself. -/
theorem test_reset_parameters :
    (clock config [] (State.resetAt { frameCountBase := 1 })).dbgLedger = [⟨1, 0, 0, 0⟩] ∧
    (autoseq config [0] (State.resetAt { asReset := .previousZero })).asDup = 1 ∧
    (autoseq config [0] (State.resetAt { asReset := .previousZero })).asLedger = [] ∧
    (resetStore { resetValues := { Store.initial with asDup := 7 } }).asDup = 7 := by decide +kernel

/-! ### Witnesses: something meets the hypotheses of each statement -/

theorem witness_AddressIsLowElevenBits : (0xC10C#32 : Word) &&& 0x7FF#32 = 0x10C#32 &&& 0x7FF#32 := by decide
theorem witness_DecodeOfEncodeIsIdentity :
    (Instr.sensor 426 0x1FFFFF [1, 2, 3, 4, 5, 6, 7, 8]).wellFormed = true := by decide
theorem witness_EncodeOfDecodeKeepsReadBits :
    decode ⟨0xF4812A23, [1, 2, 3, 4, 5, 6, 7, 8]⟩ = .ok (.valveProp 0x12 0x48 [1, 2, 3, 4, 5, 6, 7, 8]) := by
  decide
theorem witness_ExactlyFramesUpToEightBytesDecode :
    (RawFrame.mk 0 [1, 2, 3, 4, 5, 6, 7, 8]).payload.length ≤ 8 ∧
    8 < (RawFrame.mk 0 [1, 2, 3, 4, 5, 6, 7, 8, 9]).payload.length := by decide
theorem witness_UnreadIdentifierBitsHaveNoEffect :
    (0xFFFFF202 : Word) &&& readMask (classOf config (addrOf 0xFFFFF202)) =
      0x202 &&& readMask (classOf config (addrOf 0xFFFFF202)) := by decide
theorem witness_ValveFieldsComeFromIdentifier :
    (addrOf 0xFFFFFA22).toNat = 546 ∧ (addrOf 0x228).toNat = 552 ∧ (addrOf 0x223).toNat = 547 := by decide
theorem witness_ExecIsThePriorityDispatcher : decode ⟨0x211, []⟩ = .ok (.nodeNop 529 []) := by decide
theorem witness_SecondPassOfCascadeChangesNothing :
    (510 < (addrOf 511).toNat ∧ (addrOf 511).toNat < 530) ∧
    (510 < (addrOf 529).toNat ∧ (addrOf 529).toNat < 530) := by decide
theorem witness_StepRunsTheDecodedFrame :
    (waiting ⟨0x202, [1]⟩ State.reset).inbox = .frame ⟨0x202, [1]⟩ :: [] ∧
    decode ⟨0x202, [1]⟩ = .ok (.node514 [1]) := by decide
theorem witness_StepWithoutInputWaits : State.reset.inbox = [] := by decide
theorem witness_StepOnResetLeavesTheResetStore :
    ({ State.reset with inbox := [.reset] } : State).inbox = .reset :: [] := by decide
theorem witness_StepRefusesOversizedFrame :
    (waiting ⟨0, [1, 2, 3, 4, 5, 6, 7, 8, 9]⟩ State.reset).inbox =
      .frame ⟨0, [1, 2, 3, 4, 5, 6, 7, 8, 9]⟩ :: [] ∧
    8 < (RawFrame.mk 0 [1, 2, 3, 4, 5, 6, 7, 8, 9]).payload.length := by decide
theorem witness_TableWordRunsAsNextFrame :
    decodeTableWord 32 0x7FF = some (.ctrlF32 2047 [0, 0, 0, 0, 0, 0, 0, 0]) := by decide
theorem witness_WriteSetsAreRespected : (Instr.sensor 51 0 [1, 2]).wellFormed = true ∧
    ∃ t, exec (.sensor 51 0 [1, 2]) State.reset = .next t := ⟨by decide, _, exec_eq _ _⟩
theorem witness_ResultCodesFollowTheTable : (Instr.ctrlF32 1149 [1, 2, 3, 4, 5, 6, 7, 8]).wellFormed = true ∧
    ∃ t, exec (.ctrlF32 1149 [1, 2, 3, 4, 5, 6, 7, 8]) State.reset = .next t := ⟨by decide, _, exec_eq _ _⟩
theorem witness_BankFramesAreIdempotent : (Instr.valvePri 0 0 []).wellFormed = true ∧
    idempotentClass (Instr.valvePri 0 0 []).frameClass = true ∧
    ∃ t, exec (.valvePri 0 0 []) State.reset = .next t := ⟨by decide, by decide, _, exec_eq _ _⟩
theorem witness_IgnoreFrameOnlyCounts :
    ([] : List Byte).length ≤ 8 ∧ (addrOf 0xFFFFF832).toNat = 50 ∧ (addrOf 427).toNat = 427 ∧
    (addrOf 510).toNat = 510 ∧ (addrOf 530).toNat = 530 ∧ (addrOf 545).toNat = 545 ∧ (addrOf 548).toNat = 548 ∧
    (addrOf 551).toNat = 551 ∧ (addrOf 553).toNat = 553 ∧ (addrOf 1000).toNat = 1000 := by decide
theorem witness_NodeNopFrameOnlyCounts :
    (Instr.nodeNop 511 []).wellFormed = true ∧ (Instr.nodeNop 529 [3]).wellFormed = true := by decide
theorem witness_SensorFrameDecodesItsGroups :
    ((Instr.sensor 51 0 [1]).wellFormed = true ∧ ([1] : List Byte).length < 2) ∧
    ((Instr.sensor 426 0x1FFFFF [1, 2]).wellFormed = true ∧ 2 ≤ ([1, 2] : List Byte).length) ∧
    ((Instr.sensor 269 0 [1, 2, 3, 4, 5, 6, 7, 8]).wellFormed = true) := by decide
theorem reset_RolloverAt : RolloverAt 0 State.reset := ⟨0, by decide, by decide +kernel, by decide +kernel⟩
/-- A counter below, one equal, and one with its upper three bits set. -/
theorem witness_WrapIsACounterThatFell :
    (Instr.sensor 51 0x1FFFFF [1, 2]).wellFormed = true ∧ 2 ≤ ([1, 2] : List Byte).length ∧
    (Instr.sensor 426 0 [1, 2, 3, 4, 5, 6, 7, 8]).wellFormed = true ∧
    State.reset.rcLast = rawTime config 0 ∧
    ({ State.reset with rcLast := rawTime config 0x1FFFFF } : State).rcLast = rawTime config 0x1FFFFF :=
  ⟨by decide, by decide, by decide, by decide +kernel, rfl⟩
theorem witness_SensorFrameKeepsCorrectedTime :
    (Instr.sensor 51 0x3FFFF [1, 2]).wellFormed = true ∧ 2 ≤ ([1, 2] : List Byte).length ∧
    (0x3FFFF : BitVec 21).toNat < 2 ^ 18 ∧ 0 < 2 ^ 32 ∧ RolloverAt 0 State.reset :=
  ⟨by decide, by decide, by decide, by decide, reset_RolloverAt⟩
theorem witness_ValveEngFrameWritesItsBank : (Instr.valveEng 0 0 []).wellFormed = true ∧
    (Instr.valveEng 255 255 [1, 2, 3, 4, 5, 6, 7, 8]).wellFormed = true := by decide
theorem witness_ValvePriFrameWritesItsBank : (Instr.valvePri 0 0 []).wellFormed = true ∧
    (Instr.valvePri 255 255 [1, 2, 3, 4, 5, 6, 7, 8]).wellFormed = true := by decide
theorem witness_ValvePropFrameWritesItsBank : (Instr.valveProp 0 0 []).wellFormed = true ∧
    (Instr.valveProp 255 255 [1, 2, 3, 4, 5, 6, 7, 8]).wellFormed = true := by decide
theorem witness_ChannelOneZeroAsymmetry :
    ([] : List Byte).length ≤ 8 ∧ rev8 0 = 0 ∧ rev8 1 ≠ 0 ∧ ([1, 2, 3, 4, 5, 6, 7, 8] : List Byte).length ≤ 8 := by
  decide
theorem witness_NodeReportSetsItsNode :
    (nodeInstr 2 [12, 1, 2, 3, 4, 5, 6, 7]).wellFormed = true ∧ (12 : Byte).toNat ≤ 12 := by decide
theorem witness_NodeReportOutOfRangeKeepsState :
    (nodeInstr 0 [13]).wellFormed = true ∧ 13 ≤ (13 : Byte).toNat ∧ 13 ≤ (255 : Byte).toNat := by decide
/-- The duplicate clause at a state that holds the previous time 0, the change clause at reset, and the empty
payload. -/
theorem witness_AutoseqFrameCountsOrAppends :
    ((Instr.autoseq []).wellFormed = true ∧ ([] : List Byte).length = 0) ∧
    ((Instr.autoseq [0]).wellFormed = true ∧
      ({ State.reset with asValid := true } : State).asValid = true ∧
      F64.eq (F64.ofIntDiv (signedBigEndian [0]) 1000000) ({ State.reset with asValid := true } : State).asTime =
        true) ∧
    ¬ (State.reset.asValid = true ∧
      F64.eq (F64.ofIntDiv (signedBigEndian [0]) 1000000) State.reset.asTime = true) := by decide +kernel
theorem witness_RecordedSensorTimeIsTheLargest :
    ∀ i : Fin nSensor, NonnegF64 State.reset.stime[i] = true := by
  intro i
  have h : State.reset.stime[i] = 0 := by simp
  rw [h]; decide
theorem witness_EqualTimesMeanEqualIntegersUpTo2Pow53 :
    (2 ^ 53 : Int).natAbs ≤ 2 ^ 53 ∧ (-2 ^ 53 : Int).natAbs ≤ 2 ^ 53 := by decide
theorem witness_EqualTimesMeanEqualIntegersBelow2Pow33Seconds :
    (8589934591999999 : Int).natAbs < 2 ^ 33 * 1000000 ∧
    (-8589934591999999 : Int).natAbs < 2 ^ 33 * 1000000 := by decide
theorem witness_ThrottleFrameAppendsItsPairs :
    ((Instr.throttle [0, 0, 0]).wellFormed = true ∧ ([0, 0, 0] : List Byte).length < 4) ∧
    ((Instr.throttle [0, 0, 0, 10]).wellFormed = true ∧ 4 ≤ ([0, 0, 0, 10] : List Byte).length) ∧
    (Instr.throttle [0, 1, 0, 10, 0, 0, 0, 0]).wellFormed = true := by decide
theorem witness_ControllerAddressArithmetic :
    (1001 ≤ 1001 ∧ 1001 ≤ 2047 ∧ 1001 % 100 ≤ 49) ∧ (1001 ≤ 1149 ∧ 1149 ≤ 2047 ∧ 1149 % 100 ≤ 49) ∧
    (1001 ≤ 1051 ∧ 1051 ≤ 2047 ∧ 51 ≤ 1051 % 100) ∧ 1999 ≤ 2047 ∧ 51 ≤ 1999 % 100 := by decide
theorem witness_CtrlI32FrameWritesItsWords :
    (Instr.ctrlI32 1502 []).wellFormed = true ∧ (Instr.ctrlI32 1504 [1]).wellFormed = true ∧
    (Instr.ctrlI32 1502 [1, 2, 3]).wellFormed = true ∧ (Instr.ctrlI32 1502 [1, 2, 3, 4]).wellFormed = true ∧
    (Instr.ctrlI32 1504 [1, 2, 3, 4, 5, 6, 7, 8]).wellFormed = true := by decide
theorem witness_CtrlU32FrameWritesItsWords :
    (Instr.ctrlU32 1014 []).wellFormed = true ∧ (Instr.ctrlU32 2015 [1]).wellFormed = true ∧
    (Instr.ctrlU32 1115 [1, 2, 3]).wellFormed = true ∧ (Instr.ctrlU32 1514 [1, 2, 3, 4]).wellFormed = true ∧
    (Instr.ctrlU32 1515 [1, 2, 3, 4, 5, 6, 7, 8]).wellFormed = true := by decide
theorem witness_CtrlF32FrameWritesItsWords :
    (Instr.ctrlF32 1001 []).wellFormed = true ∧ (Instr.ctrlF32 2047 [1]).wellFormed = true ∧
    (Instr.ctrlF32 1050 [1, 2, 3]).wellFormed = true ∧ (Instr.ctrlF32 1149 [1, 2, 3, 4]).wellFormed = true ∧
    (Instr.ctrlF32 1099 [1, 2, 3, 4, 5, 6, 7, 8]).wellFormed = true := by decide
theorem witness_ClockFrameAppendsItsRecord : (Instr.clock []).wellFormed = true ∧
    (Instr.clock [1, 2, 3, 4, 5, 6, 7, 8]).wellFormed = true := by decide

theorem witness_HostReadsReturnCurrentValues :
    nSensor ≤ 1028 ∧ nValve ≤ 64 ∧ nNode ≤ 3 ∧ nCtrl ≤ 11 ∧ nChan ≤ 50 := by decide

/-- A state whose next operation is a sensor frame, with channel 1 of two banks and AS_VALID set. -/
def busy : State :=
  { State.reset with
    vpri := Vector.replicate nValve 1
    vprop := Vector.replicate nValve 1
    asValid := true
    inbox := [.frame ⟨0x08000064, [1, 2]⟩] }

theorem busy_steps : ∃ t, step busy = .next t := ⟨_, rfl⟩
theorem busy_sval (i : Fin nSensor) : busy.sval[i] = 0 := by simp [busy]
theorem busy_stime (i : Fin nSensor) : busy.stime[i] = 0 := by simp [busy]
theorem busy_sledger (i : Fin nSensor) : busy.sledger[i] = [] := by simp [busy]

/-- A sensor frame, a frame of another class, and a reset as the next operation. -/
theorem witness_CorrectedTimeNeverDecreases :
    (RolloverAt 0 busy ∧ NextCounterBelow18Bits busy ∧ (∃ t, step busy = .next t) ∧
      ∀ rest, busy.inbox ≠ .reset :: rest) ∧
    NextCounterBelow18Bits (waiting ⟨0xFFFFFA22, []⟩ State.reset) ∧
    NextCounterBelow18Bits { State.reset with inbox := [.reset] } := by
  refine ⟨⟨reset_RolloverAt, fun f rest h _ => ?_, busy_steps, fun rest h => ?_⟩, fun f rest h hc => ?_, fun f rest h _ => ?_⟩
  · simp only [busy] at h
    injection h with h _
    injection h with h
    rw [← h]; decide
  · simp [busy] at h
  · simp only [waiting] at h
    injection h with h _
    injection h with h
    rw [← h] at hc ⊢; revert hc; decide
  · simp at h
theorem witness_StepKeepsSensorValuesSmall : SensorValuesSmall busy ∧ ∃ t, step busy = .next t :=
  ⟨fun i => by rw [busy_sval, busy_sledger]; exact ⟨by decide, by simp⟩, busy_steps⟩
theorem witness_StepKeepsLedgersMatchingBanks : LedgersMatchBanks busy ∧ ∃ t, step busy = .next t :=
  ⟨fun i => by rw [busy_sledger]; exact ⟨busy_sval i, busy_stime i⟩, busy_steps⟩
theorem witness_StepKeepsAutoseqLedgerSound : AutoseqLedgerSound busy ∧ ∃ t, step busy = .next t :=
  ⟨⟨fun _ _ _ h => by simp [busy] at h, fun _ h => by simp [busy] at h⟩, busy_steps⟩
theorem busy_F64RegistersOrdinary : F64RegistersOrdinary busy := by
  refine ⟨by decide, by decide, by decide, fun i => ?_, fun _ h => ?_, fun _ h => ?_⟩
  · rw [busy_stime, busy_sledger]; exact ⟨by decide, by simp⟩
  · simp [busy] at h
  · simp [busy] at h
theorem witness_StepKeepsF64RegistersOrdinary : F64RegistersOrdinary busy ∧ ∃ t, step busy = .next t :=
  ⟨busy_F64RegistersOrdinary, busy_steps⟩
theorem witness_NeverWrittenElementsKeepTheirValue :
    busy.inbox = .frame ⟨0x08000064, [1, 2]⟩ :: [] ∧ (∃ t, step busy = .next t) ∧
    (268 < nSensor ∧ 1027 < nSensor ∧ 11 < nValve) := ⟨rfl, busy_steps, by decide⟩
theorem witness_OnlyResetForgets :
    busy.inbox = .frame ⟨0x08000064, [1, 2]⟩ :: [] ∧ (∃ t, step busy = .next t) ∧
    F64RegistersOrdinary busy ∧ busy.asValid = true ∧ busy.vpri[1] ≠ 0 ∧ busy.vprop[1] ≠ 0 :=
  ⟨rfl, busy_steps, busy_F64RegistersOrdinary, rfl, by decide, by decide⟩
theorem witness_NearestIsRoundToNearestEven :
    0 < 3 ∧ 0 < 1 ∧ F64.isFinite (F64.nearest true 1 3) = true ∧
    F64.isFinite (F64.nearest false ((2 ^ 53 - 1) * 2 ^ 971) 1) = true ∧
    F64.isFinite (F64.nearest false (2 ^ 1024 - 2 ^ 970) 1) = false ∧
    F64.isFinite (F64.nearest false (2 ^ 1024 - 2 ^ 970 - 1) 1) = true := by decide +kernel
theorem witness_ArithmeticIsCorrectlyRounded :
    F64.isFinite 0x3FF0000000000000 = true ∧ F64.isFinite 0x7FEFFFFFFFFFFFFF = true ∧
    F64.toRat 0x4008000000000000 ≠ 0 := by decide +kernel
theorem witness_ComparisonsFollowTheExactOrder :
    F64.isFinite 0x8000000000000000 = true ∧ F64.isFinite 0 = true ∧ F64.isNaN 0x7FF0000000000001 = true ∧
    F64.isNaN (F64.inf true) = false := by decide

end Sys2Proof.Tests
end

section
/-! SUPPORT. The binary64 numbers in units of 2^-1074: the place of a magnitude in the order of the numbers, and the
integer rounding behind RN (00_scope.md R15). -/

namespace Sys2Proof.Machine

/-! ### The units of a magnitude -/

/-- The units of 2^-1074 a magnitude pattern stands for; the patterns of infinity and the NaNs continue the scale. -/
def magnitudeUnits (m : Nat) : Nat :=
  if m / 2 ^ 52 = 0 then m % 2 ^ 52 else (2 ^ 52 + m % 2 ^ 52) * 2 ^ (m / 2 ^ 52 - 1)

theorem units_eq_magnitudeUnits (x : F64) : F64.units x = magnitudeUnits (F64.magnitude x) := (rfl)

/-- A significand `r` at scale `2 ^ k`; `r = 2 ^ 53` carries into the next binade. -/
theorem magnitudeUnits_scaled {k r : Nat} (hr : r ≤ 2 ^ 53) (hk : k = 0 ∨ 2 ^ 52 ≤ r) :
    magnitudeUnits (k * 2 ^ 52 + r) = r * 2 ^ k := by
  unfold magnitudeUnits
  rcases Nat.lt_or_ge r (2 ^ 52) with hsub | hnorm
  · obtain rfl : k = 0 := by omega
    rw [if_pos (by omega), Nat.mod_eq_of_lt (by omega)]
    simp
  · rcases Nat.lt_or_ge r (2 ^ 53) with hlt | hge
    · have hexp : (k * 2 ^ 52 + r) / 2 ^ 52 = k + 1 := by omega
      have hfrac : 2 ^ 52 + (k * 2 ^ 52 + r) % 2 ^ 52 = r := by omega
      rw [hexp, if_neg (by omega), hfrac, Nat.add_sub_cancel]
    · obtain rfl : r = 2 ^ 53 := by omega
      have hexp : (k * 2 ^ 52 + 2 ^ 53) / 2 ^ 52 = k + 2 := by omega
      have hfrac : 2 ^ 52 + (k * 2 ^ 52 + 2 ^ 53) % 2 ^ 52 = 2 ^ 52 := by omega
      rw [hexp, if_neg (by omega), hfrac, show k + 2 - 1 = k + 1 by omega, pow_succ]
      omega

/-- Every magnitude is a significand below `2 ^ 53` at some scale. -/
theorem exists_scaled (m : Nat) : ∃ k r, m = k * 2 ^ 52 + r ∧ r < 2 ^ 53 ∧ (k = 0 ∨ 2 ^ 52 ≤ r) := by
  rcases Nat.lt_or_ge m (2 ^ 52) with h | h
  · exact ⟨0, m, by omega⟩
  · exact ⟨m / 2 ^ 52 - 1, m % 2 ^ 52 + 2 ^ 52, by omega⟩

theorem strictMono_magnitudeUnits : StrictMono magnitudeUnits := by
  refine strictMono_nat_of_lt_succ fun m => ?_
  obtain ⟨k, r, rfl, hr, hk⟩ := exists_scaled m
  rw [Nat.add_assoc, magnitudeUnits_scaled hr.le hk, magnitudeUnits_scaled hr (by omega)]
  exact Nat.mul_lt_mul_of_pos_right r.lt_succ_self (by positivity)

@[simp] theorem magnitudeUnits_zero : magnitudeUnits 0 = 0 := (rfl)

/-- From scale `2 ^ k` on, the units are multiples of `2 ^ k`. -/
theorem pow_dvd_magnitudeUnits {k m : Nat} (h : k = 0 ∨ k * 2 ^ 52 + 2 ^ 52 ≤ m) : 2 ^ k ∣ magnitudeUnits m := by
  obtain ⟨k', r, rfl, hr, hk'⟩ := exists_scaled m
  rw [magnitudeUnits_scaled hr.le hk']
  exact Dvd.dvd.mul_left (pow_dvd_pow 2 (by omega)) r

/-! ### Distances on the whole numbers -/

theorem abs_sub_le_abs_sub_iff_le_midpoint {a b v : Int} (h : a < b) : |a - v| ≤ |b - v| ↔ 2 * v ≤ a + b := by
  rcases abs_cases (a - v) with ⟨ha, _⟩ | ⟨ha, _⟩ <;> rcases abs_cases (b - v) with ⟨hb, _⟩ | ⟨hb, _⟩ <;> omega

theorem abs_sub_le_abs_sub_iff_midpoint_le {a b v : Int} (h : a < b) : |b - v| ≤ |a - v| ↔ a + b ≤ 2 * v := by
  have hmirror := abs_sub_le_abs_sub_iff_le_midpoint (v := -v) (neg_lt_neg h)
  rw [neg_sub_neg, neg_sub_neg, abs_sub_comm v b, abs_sub_comm v a] at hmirror
  omega

/-! ### The rounding to a whole number -/

/-- `roundHalfEven N D` is within half of `N / D`, and even when it is exactly half away. -/
theorem roundHalfEven_bounds (N : Nat) {D : Nat} (hD : 0 < D) :
    2 * (roundHalfEven N D * D) ≤ 2 * N + D ∧ 2 * N ≤ 2 * (roundHalfEven N D * D) + D ∧
    (2 * (roundHalfEven N D * D) = 2 * N + D ∨ 2 * N = 2 * (roundHalfEven N D * D) + D →
      Even (roundHalfEven N D)) := by
  have hN : N / D * D + N % D = N := Nat.div_add_mod' N D
  have hrem : N % D < D := Nat.mod_lt N hD
  unfold roundHalfEven
  dsimp only
  split
  · omega
  · split
    · rw [add_mul]
      omega
    · rcases Nat.mod_two_eq_zero_or_one (N / D) with heven | hodd
      · rw [heven, Nat.add_zero, Nat.even_iff]
        omega
      · rw [hodd, add_mul, Nat.even_iff]
        omega

theorem roundHalfEven_between (N D : Nat) : N / D ≤ roundHalfEven N D ∧ roundHalfEven N D ≤ N / D + 1 := by
  unfold roundHalfEven
  dsimp only
  split_ifs <;> omega

/-- No whole number is nearer to `N / D`, and an equally near one is the chosen one or the chosen one is even. -/
theorem roundHalfEven_nearest (N : Nat) {D : Nat} (hD : 0 < D) (j : Nat) :
    |((roundHalfEven N D * D : Nat) : Int) - N| ≤ |((j * D : Nat) : Int) - N| ∧
    (|((j * D : Nat) : Int) - N| = |((roundHalfEven N D * D : Nat) : Int) - N| →
      j = roundHalfEven N D ∨ Even (roundHalfEven N D)) := by
  obtain ⟨hlow, hhigh, htie⟩ := roundHalfEven_bounds N hD
  generalize roundHalfEven N D = r at *
  rcases Nat.lt_trichotomy j r with hjr | rfl | hrj
  · have hstep : j * D + D ≤ r * D := by simpa [add_mul] using Nat.mul_le_mul_right D hjr
    have hlt : ((j * D : Nat) : Int) < (r * D : Nat) := by omega
    refine ⟨(abs_sub_le_abs_sub_iff_midpoint_le hlt).2 (by omega), fun heq => .inr (htie (.inl ?_))⟩
    have := (abs_sub_le_abs_sub_iff_le_midpoint hlt).1 heq.le
    omega
  · exact ⟨le_rfl, fun _ => .inl rfl⟩
  · have hstep : r * D + D ≤ j * D := by simpa [add_mul] using Nat.mul_le_mul_right D hrj
    have hlt : ((r * D : Nat) : Int) < (j * D : Nat) := by omega
    refine ⟨(abs_sub_le_abs_sub_iff_le_midpoint hlt).2 (by omega), fun heq => .inr (htie (.inr ?_))⟩
    have := (abs_sub_le_abs_sub_iff_midpoint_le hlt).1 heq.le
    omega

/-! ### The nearest magnitude -/

/-- The scale at which `n / d` is rounded: its significand there is below `2 ^ 53`, and at least `2 ^ 52` unless it is
subnormal. -/
def roundingScale (n d : Nat) : Nat := Nat.log2 (n * unitsPerOne / d) - 52

/-- The significand of `n / d`, rounded at its scale. -/
def roundedSignificand (n d : Nat) : Nat := roundHalfEven (n * unitsPerOne) (d * 2 ^ roundingScale n d)

/-- The magnitude nearest `n / d` on the scale that continues past infinity. -/
def unboundedNearest (n d : Nat) : Nat := roundingScale n d * 2 ^ 52 + roundedSignificand n d

theorem magnitudeNearest_eq_min (n d : Nat) : magnitudeNearest n d = min (unboundedNearest n d) infBits := (rfl)

/-- The distance of a magnitude from `n / d`, times `d`, in units of 2^-1074. -/
def unitsError (n d m : Nat) : Int := |((magnitudeUnits m * d : Nat) : Int) - (n * unitsPerOne : Nat)|

theorem quotient_lt_at_roundingScale (n d : Nat) : n * unitsPerOne / (d * 2 ^ roundingScale n d) < 2 ^ 53 := by
  rw [← Nat.div_div_eq_div_mul, Nat.div_lt_iff_lt_mul (by positivity), ← pow_add]
  exact Nat.lt_log2_self.trans_le (Nat.pow_le_pow_right (by decide) (by unfold roundingScale; omega))

theorem le_quotient_at_roundingScale {n d : Nat} (h : roundingScale n d ≠ 0) :
    2 ^ 52 ≤ n * unitsPerOne / (d * 2 ^ roundingScale n d) := by
  have hlog : Nat.log2 (n * unitsPerOne / d) = 52 + roundingScale n d := by unfold roundingScale at *; omega
  have hpos : n * unitsPerOne / d ≠ 0 := by
    intro hzero
    rw [hzero, Nat.log2_zero] at hlog
    omega
  rw [← Nat.div_div_eq_div_mul, Nat.le_div_iff_mul_le (by positivity), ← pow_add, ← hlog]
  exact Nat.log2_self_le hpos

theorem roundedSignificand_le (n d : Nat) : roundedSignificand n d ≤ 2 ^ 53 := by
  have := (roundHalfEven_between (n * unitsPerOne) (d * 2 ^ roundingScale n d)).2
  have := quotient_lt_at_roundingScale n d
  unfold roundedSignificand
  omega

theorem le_roundedSignificand {n d : Nat} (h : roundingScale n d ≠ 0) : 2 ^ 52 ≤ roundedSignificand n d :=
  (le_quotient_at_roundingScale h).trans (roundHalfEven_between _ _).1

theorem magnitudeUnits_unboundedNearest (n d : Nat) :
    magnitudeUnits (unboundedNearest n d) = roundedSignificand n d * 2 ^ roundingScale n d :=
  magnitudeUnits_scaled (roundedSignificand_le n d) (or_iff_not_imp_left.2 le_roundedSignificand)

theorem even_unboundedNearest (n d : Nat) : Even (unboundedNearest n d) ↔ Even (roundedSignificand n d) := by
  simp only [unboundedNearest, Nat.even_iff]
  omega

/-- No multiple of `2 ^ roundingScale n d` is nearer to `n / d` than the rounded significand. -/
theorem unitsError_unboundedNearest_le_multiple (n : Nat) {d : Nat} (hd : 0 < d) (j : Nat) :
    unitsError n d (unboundedNearest n d) ≤
      |((j * (d * 2 ^ roundingScale n d) : Nat) : Int) - (n * unitsPerOne : Nat)| ∧
    (|((j * (d * 2 ^ roundingScale n d) : Nat) : Int) - (n * unitsPerOne : Nat)| =
        unitsError n d (unboundedNearest n d) →
      j = roundedSignificand n d ∨ Even (unboundedNearest n d)) := by
  rw [even_unboundedNearest, unitsError, magnitudeUnits_unboundedNearest, Nat.mul_right_comm, Nat.mul_assoc]
  exact roundHalfEven_nearest (n * unitsPerOne) (by positivity) j

/-- No magnitude at all is nearer to `n / d`, and of equally near ones the even one is taken: those on the grid of
the scale by the rounding to a whole number, those below it because the grid's least point is nearer. -/
theorem unboundedNearest_nearest (n : Nat) {d : Nat} (hd : 0 < d) (m : Nat) :
    unitsError n d (unboundedNearest n d) ≤ unitsError n d m ∧
    (unitsError n d m = unitsError n d (unboundedNearest n d) →
      m = unboundedNearest n d ∨ Even (unboundedNearest n d)) := by
  by_cases hgrid : roundingScale n d = 0 ∨ roundingScale n d * 2 ^ 52 + 2 ^ 52 ≤ m
  · obtain ⟨j, hj⟩ := pow_dvd_magnitudeUnits hgrid
    have herr : unitsError n d m = |((j * (d * 2 ^ roundingScale n d) : Nat) : Int) - (n * unitsPerOne : Nat)| := by
      rw [unitsError, hj, Nat.mul_comm _ j, Nat.mul_assoc, Nat.mul_comm d]
    obtain ⟨hle, htie⟩ := unitsError_unboundedNearest_le_multiple n hd j
    rw [herr]
    refine ⟨hle, fun heq => (htie heq).imp_left fun hjr => strictMono_magnitudeUnits.injective ?_⟩
    rw [magnitudeUnits_unboundedNearest, ← hjr, hj, Nat.mul_comm]
  · obtain ⟨hscale, hbelow⟩ := not_or.1 hgrid
    have hleast : magnitudeUnits m * d < 2 ^ 52 * (d * 2 ^ roundingScale n d) := by
      calc magnitudeUnits m * d
          < magnitudeUnits (roundingScale n d * 2 ^ 52 + 2 ^ 52) * d :=
            Nat.mul_lt_mul_of_pos_right (strictMono_magnitudeUnits (by omega)) hd
        _ = 2 ^ 52 * (d * 2 ^ roundingScale n d) := by
            rw [magnitudeUnits_scaled (by omega) (by omega), Nat.mul_assoc, Nat.mul_comm d]
    have hvalue : 2 ^ 52 * (d * 2 ^ roundingScale n d) ≤ n * unitsPerOne :=
      (Nat.le_div_iff_mul_le (by positivity)).1 (le_quotient_at_roundingScale hscale)
    obtain ⟨hle, -⟩ := unitsError_unboundedNearest_le_multiple n hd (2 ^ 52)
    have hlt : |((2 ^ 52 * (d * 2 ^ roundingScale n d) : Nat) : Int) - (n * unitsPerOne : Nat)| < unitsError n d m := by
      rw [unitsError, abs_of_nonpos (by omega), abs_of_neg (by omega)]
      omega
    exact ⟨by omega, fun heq => by omega⟩

/-! ### The bound of the finite numbers -/

theorem unitsError_le_iff {n d m m' : Nat} (hd : 0 < d) (h : m < m') :
    unitsError n d m ≤ unitsError n d m' ↔
      2 * (n * unitsPerOne) ≤ (magnitudeUnits m + magnitudeUnits m') * d := by
  have hlt := Nat.mul_lt_mul_of_pos_right (strictMono_magnitudeUnits h) hd
  rw [unitsError, unitsError, abs_sub_le_abs_sub_iff_le_midpoint (by omega), add_mul]
  omega

theorem unitsError_ge_iff {n d m m' : Nat} (hd : 0 < d) (h : m < m') :
    unitsError n d m' ≤ unitsError n d m ↔
      (magnitudeUnits m + magnitudeUnits m') * d ≤ 2 * (n * unitsPerOne) := by
  have hlt := Nat.mul_lt_mul_of_pos_right (strictMono_magnitudeUnits h) hd
  rw [unitsError, unitsError, abs_sub_le_abs_sub_iff_midpoint_le (by omega), add_mul]
  omega

/-- Half a step above the largest finite number: the least whole number that rounds to infinity. -/
def overflowBound : Nat := (2 ^ 54 - 1) * 2 ^ 970

theorem cast_overflowBound : (overflowBound : Rat) = 2 ^ 1024 - 2 ^ 970 := by
  rw [overflowBound, show 1024 = 54 + 970 by rfl, pow_add, Nat.cast_mul, Nat.cast_pow, Nat.cast_ofNat]
  generalize (2 : Rat) ^ 970 = p
  norm_num
  ring

theorem unitsPerOne_pos : 0 < unitsPerOne := by
  unfold unitsPerOne
  positivity

theorem magnitudeUnits_around_infBits :
    magnitudeUnits (infBits - 1) + magnitudeUnits infBits = 2 * (overflowBound * unitsPerOne) := by
  have hlast : infBits - 1 = 2045 * 2 ^ 52 + (2 ^ 53 - 1) := by decide
  have hinf : infBits = 2045 * 2 ^ 52 + 2 ^ 53 := by decide
  have hstep : 2 ^ 2045 = 2 * (2 ^ 970 * unitsPerOne) := by
    rw [unitsPerOne, ← pow_add, ← pow_succ']
  rw [hlast, magnitudeUnits_scaled (by decide) (by decide), hinf, magnitudeUnits_scaled (by decide) (by decide),
    hstep, overflowBound, Nat.mul_assoc (2 ^ 54 - 1)]
  generalize 2 ^ 970 * unitsPerOne = p
  omega

/-- The least whole number that overflows lies half-way to infinity, where the tie goes to the even pattern. -/
theorem unboundedNearest_lt_infBits_iff (n : Nat) {d : Nat} (hd : 0 < d) :
    unboundedNearest n d < infBits ↔ n < overflowBound * d := by
  have hnear := unboundedNearest_nearest n hd
  have hmono := strictMono_magnitudeUnits.monotone
  have hodd : ¬ Even (infBits - 1) := by decide
  have hpos : 0 < infBits := by decide
  have hcross : (magnitudeUnits (infBits - 1) + magnitudeUnits infBits) * d ≤ 2 * (n * unitsPerOne) ↔
      overflowBound * d ≤ n := by
    rw [magnitudeUnits_around_infBits, Nat.mul_assoc, Nat.mul_le_mul_left_iff two_pos, Nat.mul_right_comm,
      Nat.mul_le_mul_right_iff unitsPerOne_pos]
  rw [← not_le, ← not_le, not_iff_not, ← hcross]
  generalize unboundedNearest n d = m at *
  constructor
  · intro hm
    have hbetween := (unitsError_ge_iff hd (show infBits - 1 < m by omega)).1 (hnear (infBits - 1)).1
    exact (Nat.mul_le_mul_right d (Nat.add_le_add_left (hmono hm) _)).trans hbetween
  · intro hn
    by_contra! hm
    obtain ⟨hle, htie⟩ := hnear infBits
    have hbelow : magnitudeUnits m + magnitudeUnits infBits ≤ magnitudeUnits (infBits - 1) + magnitudeUnits infBits :=
      Nat.add_le_add_right (hmono (by omega)) _
    have hge := (unitsError_ge_iff hd hm).2 ((Nat.mul_le_mul_right d hbelow).trans hn)
    have heven : Even m := (htie (le_antisymm hge hle)).resolve_left hm.ne'
    have hstrict : magnitudeUnits m < magnitudeUnits (infBits - 1) :=
      strictMono_magnitudeUnits (lt_of_le_of_ne (by omega) (by rintro rfl; exact hodd heven))
    have hupper := ((unitsError_le_iff hd hm).1 hle).trans' hn
    have := Nat.le_of_mul_le_mul_right hupper hd
    omega

/-! ### Patterns of a sign and a magnitude -/

/-- The pattern of a sign and a magnitude below `2 ^ 63`. -/
def F64.ofMagnitude (neg : Bool) (m : Nat) : F64 := BitVec.ofNat 64 ((if neg then 2 ^ 63 else 0) + m)

theorem F64.nearest_eq_ofMagnitude (neg : Bool) (n d : Nat) :
    F64.nearest neg n d = F64.ofMagnitude neg (magnitudeNearest n d) := (rfl)

theorem F64.inf_eq_ofMagnitude (neg : Bool) : F64.inf neg = F64.ofMagnitude neg infBits := (rfl)

theorem F64.ofMagnitude_toNat (neg : Bool) {m : Nat} (hm : m < 2 ^ 63) :
    (F64.ofMagnitude neg m).toNat = (if neg then 2 ^ 63 else 0) + m := by
  rw [F64.ofMagnitude, BitVec.toNat_ofNat, Nat.mod_eq_of_lt]
  split <;> omega

theorem F64.isNeg_ofMagnitude (neg : Bool) {m : Nat} (hm : m < 2 ^ 63) :
    F64.isNeg (F64.ofMagnitude neg m) = neg := by
  rw [F64.isNeg, BitVec.msb_eq_decide, F64.ofMagnitude_toNat neg hm]
  cases neg
  · simpa using hm
  · simp

theorem F64.magnitude_ofMagnitude (neg : Bool) {m : Nat} (hm : m < 2 ^ 63) :
    F64.magnitude (F64.ofMagnitude neg m) = m := by
  rw [F64.magnitude, F64.ofMagnitude_toNat neg hm]
  split <;> omega

/-- The last bit of a pattern is that of its magnitude. -/
theorem F64.getLsbD_zero_eq_false (x : F64) : x.getLsbD 0 = false ↔ Even (F64.magnitude x) := by
  rw [F64.magnitude, Nat.even_iff, BitVec.getLsbD, Nat.testBit_zero, decide_eq_false_iff_not]
  omega

theorem infBits_lt : infBits < 2 ^ 63 := by decide

theorem magnitudeNearest_lt (n d : Nat) : magnitudeNearest n d < 2 ^ 63 :=
  (min_le_right _ _).trans_lt infBits_lt

@[simp] theorem F64.isNeg_nearest (neg : Bool) (n d : Nat) : F64.isNeg (F64.nearest neg n d) = neg :=
  F64.isNeg_ofMagnitude neg (magnitudeNearest_lt n d)

@[simp] theorem F64.magnitude_nearest (neg : Bool) (n d : Nat) :
    F64.magnitude (F64.nearest neg n d) = magnitudeNearest n d :=
  F64.magnitude_ofMagnitude neg (magnitudeNearest_lt n d)

@[simp] theorem F64.isNeg_inf (neg : Bool) : F64.isNeg (F64.inf neg) = neg :=
  F64.isNeg_ofMagnitude neg infBits_lt

@[simp] theorem F64.magnitude_inf (neg : Bool) : F64.magnitude (F64.inf neg) = infBits :=
  F64.magnitude_ofMagnitude neg infBits_lt

theorem F64.isFinite_iff (x : F64) : F64.isFinite x = true ↔ F64.magnitude x < infBits := by
  simp [F64.isFinite]

theorem F64.isFinite_nearest_iff (neg : Bool) (n : Nat) {d : Nat} (hd : 0 < d) :
    F64.isFinite (F64.nearest neg n d) = true ↔ n < overflowBound * d := by
  rw [F64.isFinite_iff, F64.magnitude_nearest, magnitudeNearest_eq_min, min_lt_iff, or_iff_left (lt_irrefl _),
    unboundedNearest_lt_infBits_iff n hd]

/-- A finite rounding is the nearest magnitude itself, not its cap at infinity. -/
theorem F64.magnitude_nearest_of_isFinite {neg : Bool} {n d : Nat} (h : F64.isFinite (F64.nearest neg n d) = true) :
    F64.magnitude (F64.nearest neg n d) = unboundedNearest n d := by
  rw [F64.isFinite_iff] at h
  rw [F64.magnitude_nearest, magnitudeNearest_eq_min] at *
  omega

theorem F64.nearest_eq_inf {neg : Bool} {n d : Nat} (h : F64.isFinite (F64.nearest neg n d) = false) :
    F64.nearest neg n d = F64.inf neg := by
  rw [← Bool.not_eq_true, F64.isFinite_iff, F64.magnitude_nearest, magnitudeNearest_eq_min] at h
  rw [F64.nearest_eq_ofMagnitude, F64.inf_eq_ofMagnitude, magnitudeNearest_eq_min,
    min_eq_right (by omega)]

/-! ### Signed numbers -/

/-- A natural number with a sign. -/
def withSign (neg : Bool) (n : Nat) : Int := if neg then -(n : Int) else n

@[simp] theorem abs_withSign (neg : Bool) (n : Nat) : |withSign neg n| = n := by
  cases neg <;> simp [withSign]

theorem withSign_mul (neg neg' : Bool) (n n' : Nat) :
    withSign neg n * withSign neg' n' = withSign (neg != neg') (n * n') := by
  cases neg <;> cases neg' <;> simp [withSign]

theorem withSign_mul_natCast (neg : Bool) (n d : Nat) : withSign neg n * d = withSign neg (n * d) := by
  cases neg <;> simp [withSign]

theorem withSign_decide_neg (z : Int) : withSign (decide (z < 0)) z.natAbs = z := by
  simp only [withSign, decide_eq_true_eq]
  split <;> omega

@[simp] theorem withSign_zero (neg : Bool) : withSign neg 0 = 0 := by
  cases neg <;> rfl

theorem withSign_not (neg : Bool) (n : Nat) : withSign (!neg) n = -withSign neg n := by
  cases neg <;> simp [withSign]

theorem F64.sunits_eq_withSign (x : F64) : F64.sunits x = withSign (F64.isNeg x) (F64.units x) := (rfl)

/-- Numbers of one sign are as far apart as their magnitudes. -/
theorem abs_withSign_sub_same (neg : Bool) (a v : Nat) : |withSign neg a - withSign neg v| = |(a : Int) - v| := by
  cases neg
  · rfl
  · rw [abs_sub_comm]
    simp [withSign, sub_eq_add_neg, add_comm]

/-- Numbers of different signs are as far apart as the sum of their magnitudes. -/
theorem abs_withSign_sub_opposite {neg neg' : Bool} (h : neg ≠ neg') (a v : Nat) :
    |withSign neg a - withSign neg' v| = a + v := by
  obtain rfl : neg' = !neg := Bool.eq_not.2 h.symm
  have hsum : withSign neg a + withSign neg v = withSign neg (a + v) := by
    cases neg <;> simp [withSign, add_comm]
  rw [withSign_not, sub_neg_eq_add, hsum, abs_withSign, Nat.cast_add]

theorem le_abs_withSign_sub (neg neg' : Bool) (a v : Nat) :
    |(a : Int) - v| ≤ |withSign neg a - withSign neg' v| := by
  by_cases h : neg = neg'
  · rw [h, abs_withSign_sub_same]
  · rw [abs_withSign_sub_opposite h, abs_le]
    omega

/-! ### The rounding of a rational -/

/-- The distance of a number from `± n / d`, times `d`, in units of 2^-1074. -/
def signedError (neg : Bool) (n d : Nat) (x : F64) : Int :=
  |withSign (F64.isNeg x) (F64.units x * d) - withSign neg (n * unitsPerOne)|

theorem unitsError_le_signedError (neg : Bool) (n d : Nat) (x : F64) :
    unitsError n d (F64.magnitude x) ≤ signedError neg n d x :=
  le_abs_withSign_sub _ _ _ _

theorem signedError_of_isNeg_eq {neg : Bool} {x : F64} (h : F64.isNeg x = neg) (n d : Nat) :
    signedError neg n d x = unitsError n d (F64.magnitude x) := by
  rw [signedError, h, abs_withSign_sub_same]
  rfl

/-- A number of the other sign is no nearer than zero. -/
theorem units_eq_zero_of_signedError_le {neg : Bool} {n d : Nat} {x : F64} (hd : 0 < d) (h : F64.isNeg x ≠ neg)
    (hle : signedError neg n d x ≤ unitsError n d 0) : F64.units x = 0 := by
  rw [signedError, abs_withSign_sub_opposite h, unitsError] at hle
  simp only [magnitudeUnits_zero, Nat.zero_mul, Nat.cast_zero, zero_sub, abs_neg, Nat.abs_cast] at hle
  have : F64.units x * d = 0 := by omega
  exact (Nat.mul_eq_zero.1 this).resolve_right hd.ne'

theorem abs_toRat_sub (x : F64) (neg : Bool) (n : Nat) {d : Nat} (hd : 0 < d) :
    |F64.toRat x - (withSign neg n : Rat) / d| = (signedError neg n d x : Rat) / (unitsPerOne * d) := by
  have hU : (0 : Rat) < unitsPerOne := by exact_mod_cast unitsPerOne_pos
  have hd' : (0 : Rat) < d := by exact_mod_cast hd
  rw [F64.toRat, div_sub_div _ _ hU.ne' hd'.ne', abs_div, abs_of_pos (mul_pos hU hd'), signedError,
    ← withSign_mul_natCast, ← withSign_mul_natCast, ← F64.sunits_eq_withSign]
  push_cast
  rw [mul_comm (unitsPerOne : Rat) (withSign neg n : Rat)]

open Sys2Proof.Claims

theorem isNearest_nearest {neg : Bool} {n d : Nat} (hd : 0 < d) (hfin : F64.isFinite (F64.nearest neg n d) = true) :
    IsNearest (F64.nearest neg n d) ((withSign neg n : Rat) / d) := by
  intro y _
  have hscale : (0 : Rat) < unitsPerOne * d := by exact_mod_cast Nat.mul_pos unitsPerOne_pos hd
  have hmag := F64.magnitude_nearest_of_isFinite hfin
  have herr := signedError_of_isNeg_eq (F64.isNeg_nearest neg n d) n d
  rw [hmag] at herr
  obtain ⟨hle, htie⟩ := unboundedNearest_nearest n hd (F64.magnitude y)
  have hy := unitsError_le_signedError neg n d y
  rw [abs_toRat_sub _ neg n hd, abs_toRat_sub _ neg n hd, div_le_div_iff_of_pos_right hscale,
    div_left_inj' hscale.ne', Int.cast_le, Int.cast_inj, herr, F64.getLsbD_zero_eq_false, hmag]
  refine ⟨hle.trans hy, fun heq => ?_⟩
  refine (htie (by omega)).imp_left fun hsame => ?_
  have hunits : F64.units y = F64.units (F64.nearest neg n d) := by
    rw [units_eq_magnitudeUnits, units_eq_magnitudeUnits, hmag, hsame]
  rw [F64.toRat, F64.toRat, F64.sunits_eq_withSign, F64.sunits_eq_withSign, ← hunits, F64.isNeg_nearest]
  by_cases hsign : F64.isNeg y = neg
  · rw [hsign]
  · have hzero := (unboundedNearest_nearest n hd 0).1
    rw [units_eq_zero_of_signedError_le hd hsign (heq.trans_le hzero), withSign_zero, withSign_zero]

theorem abs_withSign_div (neg : Bool) (n d : Nat) : |(withSign neg n : Rat) / d| = n / d := by
  rw [abs_div, ← Int.cast_abs, abs_withSign, Nat.abs_cast, Int.cast_natCast]

theorem natCast_div_lt_overflowBound_iff (n : Nat) {d : Nat} (hd : 0 < d) :
    (n : Rat) / d < 2 ^ 1024 - 2 ^ 970 ↔ n < overflowBound * d := by
  rw [← cast_overflowBound, div_lt_iff₀ (by exact_mod_cast hd)]
  exact_mod_cast Iff.rfl

/-- RN of a rational given by a sign, a numerator and a denominator is its rounding. -/
theorem isRounding_nearest (neg : Bool) (n : Nat) {d : Nat} (hd : 0 < d) :
    IsRounding (F64.nearest neg n d) ((withSign neg n : Rat) / d) := by
  refine ⟨?_, isNearest_nearest hd, fun hinf => ?_⟩
  · rw [F64.isFinite_nearest_iff neg n hd, abs_withSign_div, natCast_div_lt_overflowBound_iff n hd]
  · have hn : 0 < n := by
      rw [← Bool.not_eq_true, F64.isFinite_nearest_iff neg n hd, overflowBound] at hinf
      exact (by positivity : 0 < (2 ^ 54 - 1) * 2 ^ 970 * d).trans_le (not_lt.1 hinf)
    have hsign : (withSign neg n : Rat) / d < 0 ↔ neg = true := by
      rw [div_lt_iff₀ (by exact_mod_cast hd), zero_mul]
      cases neg <;> simp [withSign, hn]
    simp only [F64.nearest_eq_inf hinf, hsign, Bool.decide_eq_true]

/-! ### Sums, products and quotients -/

theorem F64.isNaN_eq_false_of_isFinite {x : F64} (h : F64.isFinite x = true) : F64.isNaN x = false := by
  rw [F64.isFinite_iff] at h
  simp [F64.isNaN, h.le]

theorem F64.isInf_eq_false_of_isFinite {x : F64} (h : F64.isFinite x = true) : F64.isInf x = false := by
  rw [F64.isFinite_iff] at h
  simp [F64.isInf, h.ne]

section Finite
variable {a b : F64} (ha : F64.isFinite a = true) (hb : F64.isFinite b = true)
include ha hb

theorem F64.add_of_isFinite :
    F64.add a b = F64.nearest
      (if F64.sunits a + F64.sunits b = 0 then F64.isNeg a && F64.isNeg b
        else decide (F64.sunits a + F64.sunits b < 0))
      (F64.sunits a + F64.sunits b).natAbs unitsPerOne := by
  simp [F64.add, F64.isNaN_eq_false_of_isFinite, F64.isInf_eq_false_of_isFinite, ha, hb]

theorem F64.mul_of_isFinite :
    F64.mul a b = F64.nearest (F64.isNeg a != F64.isNeg b) (F64.units a * F64.units b)
      (unitsPerOne * unitsPerOne) := by
  simp [F64.mul, F64.isNaN_eq_false_of_isFinite, F64.isInf_eq_false_of_isFinite, ha, hb]

theorem F64.div_of_isFinite (hzero : F64.units b ≠ 0) :
    F64.div a b = F64.nearest (F64.isNeg a != F64.isNeg b) (F64.units a) (F64.units b) := by
  simp [F64.div, F64.isNaN_eq_false_of_isFinite, F64.isInf_eq_false_of_isFinite, ha, hb, hzero]

theorem isRounding_add : IsRounding (F64.add a b) (F64.toRat a + F64.toRat b) := by
  have hvalue : F64.toRat a + F64.toRat b = ((F64.sunits a + F64.sunits b : Int) : Rat) / unitsPerOne := by
    rw [F64.toRat, F64.toRat, ← add_div, Int.cast_add]
  rw [F64.add_of_isFinite ha hb, hvalue]
  generalize F64.sunits a + F64.sunits b = z
  have hsign : withSign (if z = 0 then F64.isNeg a && F64.isNeg b else decide (z < 0)) z.natAbs = z := by
    split
    case isTrue hz => rw [hz, Int.natAbs_zero, withSign_zero]
    case isFalse => exact withSign_decide_neg z
  have hround := isRounding_nearest (if z = 0 then F64.isNeg a && F64.isNeg b else decide (z < 0)) z.natAbs
    unitsPerOne_pos
  rwa [hsign] at hround

theorem isRounding_mul : IsRounding (F64.mul a b) (F64.toRat a * F64.toRat b) := by
  have hvalue : F64.toRat a * F64.toRat b =
      (withSign (F64.isNeg a != F64.isNeg b) (F64.units a * F64.units b) : Rat) /
        (unitsPerOne * unitsPerOne : Nat) := by
    rw [F64.toRat, F64.toRat, div_mul_div_comm, ← withSign_mul, ← F64.sunits_eq_withSign, ← F64.sunits_eq_withSign,
      Int.cast_mul, Nat.cast_mul]
  rw [F64.mul_of_isFinite ha hb, hvalue]
  exact isRounding_nearest _ _ (Nat.mul_pos unitsPerOne_pos unitsPerOne_pos)

theorem isRounding_div (hzero : F64.toRat b ≠ 0) : IsRounding (F64.div a b) (F64.toRat a / F64.toRat b) := by
  have hunits : F64.units b ≠ 0 := by
    intro h
    exact hzero (by rw [F64.toRat, F64.sunits_eq_withSign, h, withSign_zero, Int.cast_zero, zero_div])
  have hU : (unitsPerOne : Rat) ≠ 0 := by exact_mod_cast unitsPerOne_pos.ne'
  have hvalue : F64.toRat a / F64.toRat b =
      (withSign (F64.isNeg a != F64.isNeg b) (F64.units a) : Rat) / F64.units b := by
    rw [F64.toRat, F64.toRat, div_div_div_cancel_right₀ hU, F64.sunits_eq_withSign, F64.sunits_eq_withSign]
    cases F64.isNeg a <;> cases F64.isNeg b <;> simp [withSign, neg_div, div_neg]
  rw [F64.div_of_isFinite ha hb hunits, hvalue]
  exact isRounding_nearest _ _ (Nat.pos_of_ne_zero hunits)

end Finite

/-! ### The order of the patterns -/

/-- The value at a place of the order, in units of 2^-1074. -/
def placeUnits (k : Int) : Int := withSign (decide (k < 0)) (magnitudeUnits k.natAbs)

theorem placeUnits_withSign (neg : Bool) (m : Nat) :
    placeUnits (withSign neg m) = withSign neg (magnitudeUnits m) := by
  cases neg
  · simp [placeUnits, withSign, not_lt.2 (Int.natCast_nonneg m)]
  · rcases m.eq_zero_or_pos with rfl | hm
    · rfl
    · simp [placeUnits, withSign, hm]

/-- The value of a pattern depends on its key alone. -/
theorem placeUnits_key (x : F64) : placeUnits (F64.key x) = F64.sunits x :=
  placeUnits_withSign (F64.isNeg x) (F64.magnitude x)

theorem strictMono_placeUnits : StrictMono placeUnits := by
  refine strictMono_of_odd_strictMonoOn_nonneg (fun k => ?_) ?_
  · rw [← withSign_decide_neg k, ← withSign_not, placeUnits_withSign, placeUnits_withSign, withSign_not]
  · intro j hj k hk hjk
    obtain ⟨j, rfl⟩ := Int.eq_ofNat_of_zero_le hj
    obtain ⟨k, rfl⟩ := Int.eq_ofNat_of_zero_le hk
    have hunits := Int.ofNat_lt.2 (strictMono_magnitudeUnits (Int.ofNat_lt.1 hjk))
    exact (placeUnits_withSign false j).trans_lt (hunits.trans_eq (placeUnits_withSign false k).symm)

theorem F64.toRat_lt_toRat_iff (a b : F64) : F64.toRat a < F64.toRat b ↔ F64.key a < F64.key b := by
  rw [F64.toRat, F64.toRat, div_lt_div_iff_of_pos_right (by exact_mod_cast unitsPerOne_pos), Int.cast_lt,
    ← placeUnits_key, ← placeUnits_key, strictMono_placeUnits.lt_iff_lt]

theorem F64.toRat_eq_toRat_iff (a b : F64) : F64.toRat a = F64.toRat b ↔ F64.key a = F64.key b := by
  rw [F64.toRat, F64.toRat, div_left_inj' (by exact_mod_cast unitsPerOne_pos.ne'), Int.cast_inj,
    ← placeUnits_key, ← placeUnits_key, strictMono_placeUnits.injective.eq_iff]

theorem F64.lt_iff {a b : F64} (ha : F64.isNaN a = false) (hb : F64.isNaN b = false) :
    F64.lt a b = true ↔ F64.key a < F64.key b := by
  simp [F64.lt, ha, hb]

theorem F64.eq_iff {a b : F64} (ha : F64.isNaN a = false) (hb : F64.isNaN b = false) :
    F64.eq a b = true ↔ F64.key a = F64.key b := by
  simp [F64.eq, ha, hb]

theorem F64.compare_of_isNaN {a b : F64} (h : F64.isNaN a = true ∨ F64.isNaN b = true) :
    F64.lt a b = false ∧ F64.eq a b = false := by
  rcases h with h | h <;> simp [F64.lt, F64.eq, h]

@[simp] theorem F64.isNaN_inf (neg : Bool) : F64.isNaN (F64.inf neg) = false := by
  simp [F64.isNaN]

@[simp] theorem F64.key_inf (neg : Bool) : F64.key (F64.inf neg) = withSign neg infBits := by
  rw [F64.key, F64.isNeg_inf, F64.magnitude_inf]
  rfl

theorem F64.key_of_isFinite {x : F64} (h : F64.isFinite x = true) :
    -(infBits : Int) < F64.key x ∧ F64.key x < infBits := by
  rw [F64.isFinite_iff] at h
  unfold F64.key
  split <;> omega

/-- Every number lies strictly between the two infinities. -/
theorem F64.between_infinities {x : F64} (h : F64.isFinite x = true) :
    F64.lt x (F64.inf false) = true ∧ F64.lt (F64.inf true) x = true ∧
    F64.lt (F64.inf false) x = false ∧ F64.lt x (F64.inf true) = false := by
  obtain ⟨hlow, hhigh⟩ := F64.key_of_isFinite h
  have hnan := F64.isNaN_eq_false_of_isFinite h
  simp only [← Bool.not_eq_true, F64.lt_iff hnan (F64.isNaN_inf _), F64.lt_iff (F64.isNaN_inf _) hnan, F64.key_inf,
    withSign]
  exact ⟨hhigh, hlow, hhigh.not_gt, hlow.not_gt⟩

/-! ### The obligations -/

/-- Settles O55: on the grid of its scale RN is the rounding to a whole number, below the grid its least point is
nearer, and the largest finite number is below the overflow bound. -/
theorem nearestIsRoundToNearestEven : Obligations.NearestIsRoundToNearestEven := by
  intro neg n d hd
  refine ⟨?_, F64.isNeg_nearest neg n d, fun hn => (F64.isFinite_nearest_iff neg n hd).2 (hn.trans_lt ?_)⟩
  · have hround := isRounding_nearest neg n hd
    cases neg <;> simpa [withSign] using hround
  · refine Nat.mul_lt_mul_of_pos_right ?_ hd
    rw [overflowBound, pow_succ' 2 970, ← Nat.mul_assoc]
    exact Nat.mul_lt_mul_of_pos_right (by decide) (by positivity)

/-- Settles O56: each operation on finite numbers is RN of the exact result, in the units of 2^-1074. -/
theorem arithmeticIsCorrectlyRounded : Obligations.ArithmeticIsCorrectlyRounded :=
  fun _ _ ha hb => ⟨isRounding_add ha hb, isRounding_mul ha hb, isRounding_div ha hb⟩

/-- Settles O57: the value of a number is strictly monotone in its key. -/
theorem comparisonsFollowTheExactOrder : Obligations.ComparisonsFollowTheExactOrder := by
  refine fun a b => ⟨fun ha hb => ?_, F64.compare_of_isNaN, F64.between_infinities⟩
  have hna := F64.isNaN_eq_false_of_isFinite ha
  have hnb := F64.isNaN_eq_false_of_isFinite hb
  rw [F64.lt_iff hna hnb, F64.eq_iff hna hnb, F64.toRat_lt_toRat_iff, F64.toRat_eq_toRat_iff]
  exact ⟨Iff.rfl, Iff.rfl⟩

end Sys2Proof.Machine
end

section
/-! SUPPORT. What a frame can do to the store, said once: every frame is a chain of elementary updates, each of them
a write the frame's class may make (10_state.md R46). An invariant is then one case per elementary update. -/

namespace Sys2Proof.Machine

/-! ### The operations that write no part of R46 -/

section Bookkeeping

variable (c : Component) (s : State)

@[simp] theorem unchanged_beginStep : Unchanged c s (beginStep s) := by
  cases c <;> simp [Unchanged]

@[simp] theorem unchanged_countFrame : Unchanged c s (countFrame s) := by
  cases c <;> simp [Unchanged]

@[simp] theorem unchanged_raise (r : Result) : Unchanged c s (raise r s) := by
  cases c <;> simp [Unchanged]

@[simp] theorem unchanged_raiseIfShort (p : List Byte) : Unchanged c s (raiseIfShort p s) := by
  cases c <;> simp [Unchanged]

@[simp] theorem unchanged_inbox (q : List HostOp) : Unchanged c s { s with inbox := q } := by
  cases c <;> simp [Unchanged]

@[simp] theorem unchanged_self : Unchanged c s s := by
  cases c <;> simp [Unchanged]

end Bookkeeping

theorem Unchanged.trans {c : Component} {s t u : State} (hst : Unchanged c s t) (htu : Unchanged c t u) :
    Unchanged c s u := by
  cases c <;> simp_all [Unchanged]

/-! ### Elementary updates -/

/-- The part of the store that is a valve bank. -/
def ValveBank.component : ValveBank → Component
  | .eng => .veng
  | .pri => .vpri
  | .prop => .vprop

/-- The part of the store that is a node's entry. -/
def nodeComponent : Fin nNode → Component
  | 0 => .node0
  | 1 => .node1
  | 2 => .node2

/-- The controller words no frame writes (10_state.md R34). -/
def NeverWrittenWord (c ch : Nat) : Prop := (ch = 0 ∧ c ≤ 1) ∨ (c = 10 ∧ ch = 49)

/-- One elementary update of the store by a frame whose class may write the parts in `l`. The side conditions are
the indices and values a frame can reach (10_state.md R22, R25, R29, R34). -/
inductive Update : List Component → State → State → Prop
  /-- The result code, FRAME_COUNT and the host's queue belong to no part of R46. -/
  | bookkeeping {l : List Component} {s t : State} (h : ∀ c, Unchanged c s t) : Update l s t
  | sample (sid : Nat) (v : Word) (cnt : BitVec 21) (s : State) (hsid : sid ≠ 268 ∧ sid < 427)
      (hv : v.toNat < 65536) : Update [.sensorBanks, .rolloverClock] s (group config sid v (rawTime config cnt) s)
  | valve (b : ValveBank) (j : Nat) (v : Byte) (s : State) (hj : 1 ≤ j ∧ j ≤ 10) :
      Update [b.component] s (putValve b j v s)
  | node (n : Fin nNode) (v : VehicleState) (s : State) : Update [nodeComponent n] s (putNode n v s)
  | ctrl (c ch : Nat) (w : Word) (s : State) (h : ¬ NeverWrittenWord c ch) : Update [.cbank] s (putCtrl c ch w s)
  | autoseq (v : Int) (s : State) : Update [.autosequence] s (autoseqTime (autoseqSeconds config v) s)
  | clearThr (s : State) : Update [.throttlePoints] s (clearThr s)
  | appendThr (pt : ThrottlePoint) (s : State) : Update [.throttlePoints] s (appendThr pt s)
  | debug (p : List Byte) (s : State) : Update [.debugLedger] s (appendDebug (debugRecord config p s) s)

/-- A chain of elementary updates. -/
abbrev Updates (l : List Component) : State → State → Prop := Relation.ReflTransGen (Update l)

/-- An elementary update keeps every part of the store outside its list. -/
theorem Update.unchanged {l : List Component} {s t : State} (h : Update l s t) {c : Component} (hc : c ∉ l) :
    Unchanged c s t := by
  cases h with
  | bookkeeping h => exact h c
  | valve b => cases b <;> cases c <;> simp_all [Unchanged, ValveBank.component]
  | node n v =>
    match n with
    | 0 | 1 | 2 => cases c <;> simp_all [Unchanged, nodeComponent, getElem_modifyAt]
  | _ => cases c <;> simp_all [Unchanged]

theorem Updates.unchanged {l : List Component} {s t : State} (h : Updates l s t) {c : Component} (hc : c ∉ l) :
    Unchanged c s t := by
  induction h with
  | refl => exact unchanged_self c s
  | tail _ hstep ih => exact ih.trans (hstep.unchanged hc)

/-- What every elementary update keeps, a chain of them keeps. -/
theorem Updates.keeps {P : State → Prop} (hP : ∀ {l u v}, Update l u v → P u → P v) {l : List Component} {s t : State}
    (h : Updates l s t) (hs : P s) : P t := by
  induction h with
  | refl => exact hs
  | tail _ hstep ih => exact hP hstep ih

/-! ### What an elementary update can do to one part of the store -/

theorem Update.sensorBanks {l : List Component} {s t : State} (h : Update l s t) :
    Unchanged .sensorBanks s t ∨ ∃ sid v cnt, (sid ≠ 268 ∧ sid < 427) ∧ v.toNat < 65536 ∧
      t = group config sid v (rawTime config cnt) s := by
  cases h with
  | bookkeeping h => exact .inl (h _)
  | sample sid v cnt _ hsid hv => exact .inr ⟨sid, v, cnt, hsid, hv, rfl⟩
  | _ => exact .inl (by simp [Unchanged])

theorem Update.autosequence {l : List Component} {s t : State} (h : Update l s t) :
    Unchanged .autosequence s t ∨ ∃ v, t = autoseqTime (autoseqSeconds config v) s := by
  cases h with
  | bookkeeping h => exact .inl (h _)
  | autoseq v => exact .inr ⟨v, rfl⟩
  | _ => exact .inl (by simp [Unchanged])

theorem Update.cbank {l : List Component} {s t : State} (h : Update l s t) :
    Unchanged .cbank s t ∨ ∃ c ch w, ¬ NeverWrittenWord c ch ∧ t = putCtrl c ch w s := by
  cases h with
  | bookkeeping h => exact .inl (h _)
  | ctrl c ch w _ h => exact .inr ⟨c, ch, w, h, rfl⟩
  | _ => exact .inl (by simp [Unchanged])

theorem Update.valveBanks {l : List Component} {s t : State} (h : Update l s t) :
    (Unchanged .vpri s t ∧ Unchanged .veng s t ∧ Unchanged .vprop s t) ∨
      ∃ b j v, (1 ≤ j ∧ j ≤ 10) ∧ t = putValve b j v s := by
  cases h with
  | bookkeeping h => exact .inl ⟨h _, h _, h _⟩
  | valve b j v _ hj => exact .inr ⟨b, j, v, hj, rfl⟩
  | _ => exact .inl (by simp [Unchanged])

/-! ### Every frame is a chain of elementary updates -/

section Handlers

variable (s : State)

theorem raise_updates (l : List Component) (r : Result) : Updates l s (raise r s) :=
  .single (.bookkeeping fun c => unchanged_raise c s r)

/-- A raw sensor value is sixteen bits, zero-extended (41_sensor.md R135). -/
theorem sensorValueAt_lt (p : List Byte) (off : Nat) : (sensorValueAt p off).toNat < 65536 := by
  have := (be16At p off).isLt
  simp only [sensorValueAt, BitVec.truncate_eq_setWidth, BitVec.toNat_setWidth]
  omega

/-- A sub-address is one byte (41_sensor.md R134). -/
theorem subAddressAt_lt (p : List Byte) (off : Nat) : subAddressAt p off < 256 := by
  rw [subAddressAt, memRead]
  cases p.drop off with
  | nil => decide
  | cons b bs => simpa [be] using b.isLt

theorem group_updates {sid : Nat} (hsid : sid ≠ 268 ∧ sid < 427) (p : List Byte) (off : Nat) (cnt : BitVec 21) :
    Updates [.sensorBanks, .rolloverClock] s (group config sid (sensorValueAt p off) (rawTime config cnt) s) :=
  .single (.sample sid _ cnt s hsid (sensorValueAt_lt p off))

theorem subGroup_updates (p : List Byte) (sub off : Nat) (cnt : BitVec 21) :
    Updates [.sensorBanks, .rolloverClock] s
      (group config (subAddressAt p sub) (sensorValueAt p off) (rawTime config cnt) s) := by
  have := subAddressAt_lt p sub
  exact group_updates s ⟨by omega, by omega⟩ p off cnt

theorem sensor_updates {a : Addr} (ha : sensorAddr a.toNat = true) (cnt : BitVec 21) (p : List Byte) :
    Updates [.sensorBanks, .rolloverClock] s (sensor config a cnt p s) := by
  have hsid : a.toNat ≠ 268 ∧ a.toNat < 427 := by
    simp only [sensorAddr, Bool.or_eq_true, Bool.and_eq_true, decide_eq_true_eq] at ha
    omega
  rw [sensor]
  split_ifs
  · exact raise_updates s _ _
  · rw [sensorGroups, sensorGroup3, sensorGroup2]
    refine (group_updates s hsid p 0 cnt).trans ?_
    split_ifs
    · exact (subGroup_updates _ p 2 3 cnt).trans (subGroup_updates _ p 5 6 cnt)
    · exact subGroup_updates _ p 5 6 cnt
    · exact subGroup_updates _ p 2 3 cnt
    · exact .refl

theorem clock_updates (p : List Byte) : Updates [.debugLedger] s (clock config p s) :=
  .tail (.single (.debug p s)) (.bookkeeping fun c => unchanged_raiseIfShort c _ p)

/-- The payload bytes go to the channels from j on, none beyond channel 10 (42_valve.md R156). -/
theorem valveBytes_updates (b : ValveBank) (j : Nat) (p : List Byte) (hj : 1 ≤ j) (hp : j + p.length ≤ 11) :
    Updates [b.component] s (valveBytes b j p s) := by
  induction p generalizing j s with
  | nil => exact .refl
  | cons x xs ih =>
    rw [List.length_cons] at hp
    exact .head (.valve b j x s ⟨hj, by omega⟩) (ih _ (j + 1) (by omega) (by omega))

theorem valveChannel1_updates (b : ValveBank) (f1 : Byte) : Updates [b.component] s (valveChannel1 b f1 s) := by
  rw [valveChannel1]
  split_ifs
  · exact .refl
  · exact .single (.valve b 1 _ s (by decide))

theorem valve_updates (b : ValveBank) (f1 f2 : Byte) {p : List Byte} (hp : p.length ≤ 8) :
    Updates [b.component] s (valve b f1 f2 p s) := by
  have hchannels := ((valveChannel1_updates s b f1).tail (.valve b 2 (rev8 f2) _ (by decide))).trans
    (valveBytes_updates _ b 3 p (by decide) (by omega))
  exact hchannels.tail (.bookkeeping fun c => unchanged_raiseIfShort c _ p)

theorem autoseq_updates (p : List Byte) : Updates [.autosequence] s (autoseq config p s) := by
  rw [autoseq]
  split_ifs
  · exact raise_updates s _ _
  · exact .single (.autoseq _ s)

theorem throttleSentinel_updates (p : List Byte) : Updates [.throttlePoints] s (throttleSentinel p s) := by
  rw [throttleSentinel]
  split_ifs
  · exact .single (.clearThr s)
  · exact .refl

theorem throttle_updates (p : List Byte) : Updates [.throttlePoints] s (throttle config p s) := by
  rw [throttle]
  split_ifs
  · exact raise_updates s _ _
  · have hfirst := (throttleSentinel_updates s p).tail (.appendThr (throttlePointAt config p 0) _)
    rw [throttlePair2]
    split_ifs
    · exact hfirst.tail (.appendThr _ _)
    · exact hfirst

theorem ctrlWrite_updates {c ch : Nat} (h : ¬ NeverWrittenWord c ch) (w : Word) :
    Updates [.cbank] s (ctrlWrite c ch w s) := by
  rw [ctrlWrite]
  split_ifs
  · exact .single (.ctrl c ch w s h)
  · exact raise_updates s _ _

/-- The two words a generic controller frame can address are none of the three (10_state.md R34, 44_controller.md
R201): those would take the address 1000, 1100 (which is AUTOSEQ's), 2048 or 2049. -/
theorem not_neverWrittenWord {n : Nat} (hlo : 1001 ≤ n) (hhi : n < 2048) (hautoseq : n ≠ 1100) :
    ¬ NeverWrittenWord (controllerOf config n) (channelOf config n) ∧
    ¬ NeverWrittenWord (controllerOf config n) (channelOf config n + 1) := by
  rw [controllerOf_config, channelOf_config, roundAddress_config]
  unfold NeverWrittenWord
  split_ifs <;> simp only [false_and, false_or] <;> omega

theorem genericOrIgnored_updates {a : Addr} (hlo : 1001 ≤ a.toNat) (hautoseq : a.toNat ≠ 1100) (p : List Byte) :
    Updates [.cbank] s (genericOrIgnored config a p s) := by
  obtain ⟨hword, hnext⟩ := not_neverWrittenWord hlo a.isLt hautoseq
  rw [genericOrIgnored]
  split_ifs
  · rw [generic, genericAt]
    split_ifs
    · exact (ctrlWrite_updates s hword _).trans (ctrlWrite_updates _ hnext _)
    · exact ctrlWrite_updates s hword _
    · exact raise_updates s _ _
  · exact raise_updates s _ _

/-- At a node address the second pass of the cascade finds no handler (40_dispatch.md R119). -/
theorem nodeThenCascade_of_nodeAddr {a : Addr} (ha : 510 < a.toNat ∧ a.toNat < 530) (p : List Byte) :
    nodeThenCascade config a p s = node config a p s := by
  have hroute : route config a 1 = .nowhere := by
    rw [route_config, if_neg (by omega), if_neg (by omega), if_neg (by omega), if_neg (by omega), if_neg (by omega),
      if_neg (by omega), if_neg (by omega)]
  simp only [nodeThenCascade, cascade, addrOf_plainId, hroute]

theorem nodeUpdate_updates (n : Fin nNode) (p : List Byte) : Updates [nodeComponent n] s (nodeUpdate n p s) := by
  cases p with
  | nil => exact raise_updates s _ _
  | cons b bs =>
    cases hv : vehicleState b.toNat with
    | some v => simpa only [nodeUpdate, hv] using .single (.node n v s)
    | none => simpa only [nodeUpdate, hv] using raise_updates s _ _

theorem nodeNop_updates {a : Addr} (ha : nodeNopAddr a.toNat = true) (p : List Byte) :
    Updates [] s (nodeThenCascade config a p s) := by
  simp only [nodeNopAddr, Bool.or_eq_true, Bool.and_eq_true, decide_eq_true_eq] at ha
  have hindex : nodeIndexOf config a.toNat = none := by
    rw [nodeIndexOf_config, if_neg (by omega), if_neg (by omega), if_neg (by omega)]
  rw [nodeThenCascade_of_nodeAddr s (by omega), node, hindex]
  exact raise_updates s _ _

theorem nodeReport_updates {a : Addr} {n : Fin nNode} (ha : 510 < a.toNat ∧ a.toNat < 530)
    (hindex : nodeIndexOf config a.toNat = some n.val) (p : List Byte) :
    Updates [nodeComponent n] s (nodeThenCascade config a p s) := by
  rw [nodeThenCascade_of_nodeAddr s ha, node, hindex]
  exact nodeUpdate_updates s n p

end Handlers

/-- The work of an instruction makes only updates of its class's write set (10_state.md R46). -/
theorem workOf_updates {i : Instr} (hi : i.wellFormed = true) (s : State) :
    Updates (writeSet i.frameClass) s (workOf i s) := by
  simp only [Instr.wellFormed, Instr.payloadOk, Bool.and_eq_true, decide_eq_true_eq] at hi
  obtain ⟨hlen, haddr⟩ := hi
  cases i with
  | ignore a p => exact raise_updates s _ _
  | sensor a cnt p => exact sensor_updates s haddr cnt p
  | clock p => exact clock_updates s p
  | nodeNop a p => exact nodeNop_updates s haddr p
  | node514 p => exact nodeReport_updates (n := 0) s (by decide) rfl p
  | node515 p => exact nodeReport_updates (n := 1) s (by decide) rfl p
  | node520 p => exact nodeReport_updates (n := 2) s (by decide) rfl p
  | valveEng f1 f2 p => exact valve_updates s .eng f1 f2 hlen
  | valvePri f1 f2 p => exact valve_updates s .pri f1 f2 hlen
  | valveProp f1 f2 p => exact valve_updates s .prop f1 f2 hlen
  | autoseq p => exact autoseq_updates s p
  | throttle p => exact throttle_updates s p
  | ctrlI32 a p =>
    simp only [Instr.addressOk, ctrlI32Addr, Bool.or_eq_true, beq_iff_eq] at haddr
    exact genericOrIgnored_updates s (by omega) (by omega) p
  | ctrlU32 a p =>
    simp only [Instr.addressOk, ctrlU32Addr, Bool.and_eq_true, Bool.or_eq_true, decide_eq_true_eq, beq_iff_eq] at haddr
    exact genericOrIgnored_updates s (by omega) (by omega) p
  | ctrlF32 a p =>
    simp only [Instr.addressOk, ctrlF32Addr, Bool.and_eq_true, decide_eq_true_eq, bne_iff_ne] at haddr
    exact genericOrIgnored_updates s (by omega) (by omega) p

/-- Every frame is a chain of updates of its class's write set (10_state.md R46). -/
theorem exec_updates {i : Instr} {s t : State} (hi : i.wellFormed = true) (h : exec i s = .next t) :
    Updates (writeSet i.frameClass) s t := by
  rw [exec_next_iff] at h
  subst h
  exact .head (.bookkeeping fun c => unchanged_beginStep c s)
    ((workOf_updates hi _).tail (.bookkeeping fun c => unchanged_countFrame c _))

/-! ### Every step -/

/-- The addresses of a class that takes its address as an operand; the other classes have one each. -/
def operandAddr : FrameClass → Nat → Bool
  | .ignore => ignoreAddr
  | .sensor => sensorAddr
  | .nodeNop => nodeNopAddr
  | .ctrlI32 => ctrlI32Addr
  | .ctrlU32 => ctrlU32Addr
  | .ctrlF32 => ctrlF32Addr
  | _ => fun _ => true

theorem operandAddr_classOf (a : Addr) : operandAddr (classOf config a) a.toNat = true := by
  have ha := a.isLt
  rw [classOf_config]
  repeat' refine iteInduction (motive := fun c => operandAddr c a.toNat = true) (fun _ => ?_) (fun _ => ?_)
  all_goals simp only [operandAddr, ignoreAddr, sensorAddr, nodeNopAddr, ctrlI32Addr, ctrlU32Addr,
      ctrlF32Addr, Bool.and_eq_true, Bool.or_eq_true, decide_eq_true_eq, bne_iff_ne, ne_eq, beq_iff_eq,
      Bool.not_eq_true', Bool.or_eq_false_iff, Bool.and_eq_false_iff, beq_eq_false_iff_ne, decide_eq_false_iff_not]
  all_goals omega
theorem addressOk_instrOf (cfg : Config) (c : FrameClass) (f : RawFrame) :
    (instrOf cfg c f).addressOk = operandAddr c (addrOf f.identifier).toNat := by
  cases c <;> rfl

theorem payload_instrOf (cfg : Config) (c : FrameClass) (f : RawFrame) : (instrOf cfg c f).payload = f.payload := by
  cases c <;> rfl

theorem frameClass_instrOf (cfg : Config) (c : FrameClass) (f : RawFrame) : (instrOf cfg c f).frameClass = c := by
  cases c <;> rfl

theorem decode_eq_ok_iff (f : RawFrame) (i : Instr) :
    decode f = .ok i ↔ f.payload.length ≤ maxLen ∧ i = instrOf config (classOf config (addrOf f.identifier)) f := by
  rw [decode, decodeWith]
  split_ifs with hlen
  · simp [hlen, eq_comm]
  · simp [hlen]

/-- An accepted frame stands for a well-formed instruction (30_encoding.md R96). -/
theorem wellFormed_of_decode {f : RawFrame} {i : Instr} (h : decode f = .ok i) : i.wellFormed = true := by
  obtain ⟨hlen, rfl⟩ := (decode_eq_ok_iff f i).1 h
  simp [Instr.wellFormed, Instr.payloadOk, payload_instrOf, addressOk_instrOf, operandAddr_classOf, hlen]

theorem frameClass_of_decode {f : RawFrame} {i : Instr} (h : decode f = .ok i) :
    i.frameClass = classOf config (addrOf f.identifier) := by
  obtain ⟨_, rfl⟩ := (decode_eq_ok_iff f i).1 h
  exact frameClass_instrOf _ _ _

/-- A step that runs a frame is a chain of elementary updates, of the write set of the frame's class. -/
theorem step_frame_updates {s t : State} {f : RawFrame} {rest : List HostOp} (hin : s.inbox = .frame f :: rest)
    (h : step s = .next t) : Updates (writeSet (classOf config (addrOf f.identifier))) s t := by
  obtain ⟨hnone, _⟩ | ⟨f', rest', i, hframe, hdecode, hexec⟩ | ⟨_, hreset, _⟩ := step_next_cases h
  · simp [hin] at hnone
  · obtain ⟨rfl, rfl⟩ : f = f' ∧ rest = rest' := by simpa [hin] using hframe
    rw [← frameClass_of_decode hdecode]
    exact .head (.bookkeeping fun c => unchanged_inbox c s rest) (exec_updates (wellFormed_of_decode hdecode) hexec)
  · simp [hin] at hreset

/-- An invariant: what reset establishes and every elementary update keeps, every step keeps. -/
theorem step_keeps {P : State → Prop} (hreset : P State.reset) (hupdate : ∀ {l u v}, Update l u v → P u → P v)
    {s t : State} (hs : P s) (h : step s = .next t) : P t := by
  obtain ⟨_, rfl⟩ | ⟨_, _, _, hin, _, _⟩ | ⟨rest, _, rfl⟩ := step_next_cases h
  · exact hs
  · exact (step_frame_updates hin h).keeps hupdate hs
  · exact hupdate (l := []) (.bookkeeping fun c => unchanged_inbox c State.reset _) hreset

end Sys2Proof.Machine
end

section
/-! SUPPORT. The statements of 10_state.md: reset values, write sets, elements no frame writes, and the
invariants of the sensor values and of the autosequence ledger. -/

namespace Sys2Proof.Machine

/-! ### Write sets -/

/-- Settles O17: a frame is a chain of updates of its class's write set, each of which keeps the rest. -/
theorem writeSetsAreRespected : Obligations.WriteSetsAreRespected := by
  intro i s t hi h
  refine ⟨?_, fun c hc => (exec_updates hi h).unchanged hc⟩
  rw [(exec_next_iff i s t).1 h]
  simp

/-! ### Sensor values -/

theorem SensorValuesSmall.of_unchanged {s t : State} (hs : SensorValuesSmall s) (h : Unchanged .sensorBanks s t) :
    SensorValuesSmall t := by
  obtain ⟨hsval, _, hsledger⟩ := h
  simpa only [SensorValuesSmall, hsval, hsledger] using hs

theorem SensorValuesSmall.group {s : State} (hs : SensorValuesSmall s) (cfg : Config) (sid : Nat) {v : Word}
    (hv : v.toNat < 65536) (raw : F64) : SensorValuesSmall (group cfg sid v raw s) := by
  intro i
  obtain ⟨hval, hledger⟩ := hs i
  simp only [group_sval, group_sledger, Fin.getElem_fin, getElem_modifyAt] at *
  split_ifs
  · refine ⟨hv, fun r hr => ?_⟩
    obtain hr | hr := List.mem_append.1 hr
    · exact hledger r hr
    · rw [List.mem_singleton.1 hr]
      exact hv
  · exact ⟨hval, hledger⟩

theorem SensorValuesSmall.update {l : List Component} {s t : State} (h : Update l s t) (hs : SensorValuesSmall s) :
    SensorValuesSmall t := by
  obtain hsame | ⟨sid, v, cnt, _, hv, rfl⟩ := h.sensorBanks
  · exact hs.of_unchanged hsame
  · exact hs.group config sid hv _

theorem sensorValuesSmall_reset : SensorValuesSmall State.reset := fun i => by simp

/-- Settles O48: the only update that writes a sensor value writes one of sixteen bits. -/
theorem stepKeepsSensorValuesSmall : Obligations.StepKeepsSensorValuesSmall :=
  fun _ _ => step_keeps sensorValuesSmall_reset SensorValuesSmall.update

/-! ### The autosequence ledger -/

/-- Two neighbours of the autosequence ledger have different times. -/
def TimesDiffer (r r' : AutoseqRecord) : Prop := F64.eq r.autosequenceTime r'.autosequenceTime = false

theorem autoseqLedgerSound_iff (s : State) :
    AutoseqLedgerSound s ↔ s.asLedger.IsChain TimesDiffer ∧
      ∀ r ∈ s.asLedger.getLast?, s.asValid = true ∧ r.autosequenceTime = s.asTime := by
  rw [AutoseqLedgerSound, List.isChain_iff_getElem]
  refine and_congr_left fun _ => ⟨fun h k hk => h k _ _ (List.getElem?_eq_getElem _) (List.getElem?_eq_getElem hk), ?_⟩
  intro h k r r' hr hr'
  obtain ⟨_, rfl⟩ := List.getElem?_eq_some_iff.1 hr
  obtain ⟨hk, rfl⟩ := List.getElem?_eq_some_iff.1 hr'
  exact h k hk

theorem F64.eq_swap (a b : F64) : F64.eq a b = F64.eq b a := by
  simp only [F64.eq, Bool.and_comm (!F64.isNaN a), eq_comm (a := F64.key a)]

theorem AutoseqLedgerSound.of_unchanged {s t : State} (hs : AutoseqLedgerSound s) (h : Unchanged .autosequence s t) :
    AutoseqLedgerSound t := by
  obtain ⟨hvalid, htime, _, hledger⟩ := h
  simpa only [AutoseqLedgerSound, hvalid, htime, hledger] using hs

theorem AutoseqLedgerSound.autoseqTime {s : State} (hs : AutoseqLedgerSound s) (t : F64) :
    AutoseqLedgerSound (autoseqTime t s) := by
  rw [Machine.autoseqTime]
  split_ifs with hdup
  · simpa [AutoseqLedgerSound] using hs
  · rw [autoseqLedgerSound_iff] at hs ⊢
    obtain ⟨hchain, hlast⟩ := hs
    simp only [putAutoseq_asLedger, putAutoseq_asValid, putAutoseq_asTime, putDup_asLedger]
    refine ⟨List.isChain_append.2 ⟨hchain, .singleton _, fun r hr r' hr' => ?_⟩, by simp⟩
    obtain ⟨hvalid, htime⟩ := hlast r hr
    obtain rfl : _ = r' := by simpa using hr'
    simpa [TimesDiffer, htime, hvalid, F64.eq_swap t] using hdup

theorem AutoseqLedgerSound.update {l : List Component} {s t : State} (h : Update l s t) (hs : AutoseqLedgerSound s) :
    AutoseqLedgerSound t := by
  obtain hsame | ⟨v, rfl⟩ := h.autosequence
  · exact hs.of_unchanged hsame
  · exact hs.autoseqTime _

theorem autoseqLedgerSound_reset : AutoseqLedgerSound State.reset := by
  simp [AutoseqLedgerSound]

/-- Settles O50: a record is appended only when its time differs from AS_TIME, the time of the last record. -/
theorem stepKeepsAutoseqLedgerSound : Obligations.StepKeepsAutoseqLedgerSound :=
  fun _ _ => step_keeps autoseqLedgerSound_reset AutoseqLedgerSound.update

/-! ### Elements no frame writes -/

/-- The sensor entries at an index are the same in two states. -/
def SameSensor (i : Fin nSensor) (s t : State) : Prop :=
  t.sval[i] = s.sval[i] ∧ t.stime[i] = s.stime[i] ∧ t.sledger[i] = s.sledger[i]

/-- The elements at an index of the three valve banks are the same in two states. -/
def SameValve (j : Fin nValve) (s t : State) : Prop :=
  t.vpri[j] = s.vpri[j] ∧ t.veng[j] = s.veng[j] ∧ t.vprop[j] = s.vprop[j]

theorem Update.sameSensor {l : List Component} {r s t : State} {i : Fin nSensor} (hi : i.val = 268 ∨ 427 ≤ i.val)
    (h : Update l s t) (hs : SameSensor i r s) : SameSensor i r t := by
  obtain ⟨hsval, hstime, hsledger⟩ | ⟨sid, v, cnt, hsid, _, rfl⟩ := h.sensorBanks
  · simpa only [SameSensor, hsval, hstime, hsledger] using hs
  · have hne : sid ≠ i.val := by omega
    simpa [SameSensor, getElem_modifyAt_ne, hne] using hs

theorem Update.sameValve {l : List Component} {r s t : State} {j : Fin nValve} (hj : j.val = 0 ∨ 11 ≤ j.val)
    (h : Update l s t) (hs : SameValve j r s) : SameValve j r t := by
  obtain ⟨hpri, heng, hprop⟩ | ⟨b, k, v, hk, rfl⟩ := h.valveBanks
  · simp only [Unchanged] at hpri heng hprop
    simpa only [SameValve, hpri, heng, hprop] using hs
  · have hne : k ≠ j.val := by omega
    cases b <;> simpa [SameValve, getElem_modifyAt_ne, hne] using hs

theorem putCtrl_cbank_getElem_ne (s : State) (w : Word) {c ch c' ch' : Nat} (h : ¬ (c = c' ∧ ch = ch'))
    (hc : c' < nCtrl) (hch : ch' < nChan) : (putCtrl c ch w s).cbank[c'][ch'] = s.cbank[c'][ch'] := by
  rw [putCtrl_cbank, getElem_modifyAt]
  split_ifs with hrow
  · exact getElem_modifyAt_ne _ _ _ _ hch fun hcol => h ⟨hrow, hcol⟩
  · rfl

theorem Update.sameWord {l : List Component} {r s t : State} {c ch : Nat} (hword : NeverWrittenWord c ch)
    (hc : c < nCtrl) (hch : ch < nChan) (h : Update l s t) (hs : s.cbank[c][ch] = r.cbank[c][ch]) :
    t.cbank[c][ch] = r.cbank[c][ch] := by
  obtain hsame | ⟨c', ch', w, hnot, rfl⟩ := h.cbank
  · simp only [Unchanged] at hsame
    simpa only [hsame] using hs
  · rw [putCtrl_cbank_getElem_ne s w _ hc hch, hs]
    rintro ⟨rfl, rfl⟩
    exact hnot hword

/-- Settles O53: no update of a frame reaches one of these elements. -/
theorem neverWrittenElementsKeepTheirValue : Obligations.NeverWrittenElementsKeepTheirValue := by
  intro s t f rest hin h
  have hupdates := step_frame_updates hin h
  have hword {c ch : Nat} (hword : NeverWrittenWord c ch) (hc : c < nCtrl) (hch : ch < nChan) :
      t.cbank[c][ch] = s.cbank[c][ch] := hupdates.keeps (Update.sameWord hword hc hch) rfl
  exact ⟨fun i hi => hupdates.keeps (Update.sameSensor hi) ⟨rfl, rfl, rfl⟩,
    fun j hj => hupdates.keeps (Update.sameValve hj) ⟨rfl, rfl, rfl⟩,
    hword (.inl (by decide)) _ _, hword (.inl (by decide)) _ _, hword (.inr (by decide)) _ _⟩

/-! ### Reset -/

/-- Settles O20: the reset store, element by element; each bank is one value repeated. -/
theorem resetStoreHoldsTheListedValues : Obligations.ResetStoreHoldsTheListedValues := by
  refine ⟨fun i => ?_, reset_rcLast, reset_rcAcc, fun j => ?_, fun n => ?_, fun c ch => ?_, reset_asValid,
    reset_asTime, reset_asDup, reset_asLedger, reset_thr, reset_dbgLedger, reset_frameCount⟩ <;> simp

theorem ledgersMatchBanks_reset : LedgersMatchBanks State.reset := fun i => by simp

theorem nonnegF64_zero : NonnegF64 0#64 = true := by decide

theorem ordinaryF64_zero : OrdinaryF64 0#64 = true := by decide

theorem f64RegistersOrdinary_reset : F64RegistersOrdinary State.reset := by
  simp [F64RegistersOrdinary, nonnegF64_zero, ordinaryF64_zero]

theorem F64.nearest_zero (d : Nat) : F64.nearest false 0 d = 0 := by
  simp [F64.nearest, magnitudeNearest, roundHalfEven]

theorem rawTime_zero (cfg : Config) : rawTime cfg 0 = 0 := by
  simp [rawTime, F64.nearest_zero]

theorem rolloverAt_reset : RolloverAt 0 State.reset :=
  ⟨0, by decide, by rw [rawTime_zero, reset_rcLast], by rw [Nat.mul_zero, F64.ofNat, F64.nearest_zero, reset_rcAcc]⟩

/-- Settles O52: zeros, and empty ledgers. -/
theorem resetStoreIsSound : Obligations.ResetStoreIsSound :=
  ⟨sensorValuesSmall_reset, ledgersMatchBanks_reset, autoseqLedgerSound_reset, f64RegistersOrdinary_reset,
    rolloverAt_reset⟩

/-! ### Vehicle states -/

theorem vehicleState_eq_none_of_lt {n : Nat} (h : 12 < n) : vehicleState n = none := by
  obtain ⟨k, rfl⟩ := Nat.exists_eq_add_of_le' h
  rfl

/-- Settles O33: the thirteen members by evaluation, the indices above 12 by the default arm. -/
theorem vehicleStatesAreNumberedInOrder : Obligations.VehicleStatesAreNumberedInOrder :=
  ⟨rfl, fun v => by cases v <;> rfl, fun _ => vehicleState_eq_none_of_lt⟩

end Sys2Proof.Machine
end

section
/-! SUPPORT. The statements of 20_memory.md: the length limit of a payload, host reads, and the classes whose frames
leave the banks as after once when presented twice. -/

namespace Sys2Proof.Machine

/-! ### The length limit -/

theorem decode_eq_error {f : RawFrame} (h : maxLen < f.payload.length) : decode f = .error .payloadTooLong := by
  rw [decode, decodeWith, if_neg (by omega)]

/-- Settles O6: the length test is the decoder's only one; what it accepts is `instrOf` the frame's class. -/
theorem exactlyFramesUpToEightBytesDecode : Obligations.ExactlyFramesUpToEightBytesDecode := by
  refine fun f => ⟨fun hlen => ?_, decode_eq_error⟩
  have hdecode := (decode_eq_ok_iff f _).2 ⟨hlen, rfl⟩
  exact ⟨_, hdecode, wellFormed_of_decode hdecode, payload_instrOf _ _ f⟩

theorem step_of_frame {s : State} {f : RawFrame} {rest : List HostOp} (hin : s.inbox = .frame f :: rest) :
    step s = pushFrame f { s with inbox := rest } := by
  simp only [step, hin, perform]

/-- Settles O14: the step presents the frame to the decoder, whose error becomes the refusal. -/
theorem stepRefusesOversizedFrame : Obligations.StepRefusesOversizedFrame := by
  intro s f rest hin hlen
  simp only [step_of_frame hin, pushFrame, decode_eq_error hlen, refusalOf]

/-! ### Host reads -/

theorem hostRead_cbank_eq_none {c ch : Nat} (h : nCtrl ≤ c ∨ nChan ≤ ch) (s : State) :
    hostRead (.cbank c ch) s = none := by
  obtain hc | hch := h
  · simp [hostRead, hc]
  · simp [hostRead, hch]

/-- Settles O47: a read of a bank is the bank's own bounded lookup; the other elements are read as they stand. -/
theorem hostReadsReturnCurrentValues : Obligations.HostReadsReturnCurrentValues := by
  refine fun s => ⟨fun i => ?sensor, rfl, rfl, fun j => ?valve, fun n => ?node, fun c ch => ?word, rfl, rfl, rfl, rfl,
    rfl, rfl, rfl, fun k hk => ?noSensor, fun k hk => ?noValve, fun k hk => ?noNode,
    fun c ch h => hostRead_cbank_eq_none h s⟩
  case sensor | valve | node | word => simp [hostRead]
  case noSensor | noValve | noNode => simp [hostRead, hk]

/-! ### What a frame sets or keeps -/

/-- The part of the store that `get` reads: `f` sets it to a value that does not depend on the state, or keeps it. -/
def SetsOrKeeps {α : Type} (get : State → α) (f : State → State) : Prop :=
  ∃ o : Option α, ∀ s, get (f s) = o.getD (get s)

section SetsOrKeeps

variable {α : Type} {get : State → α} {f g : State → State}

theorem SetsOrKeeps.keeps (h : ∀ s, get (f s) = get s) : SetsOrKeeps get f := ⟨none, h⟩

theorem SetsOrKeeps.sets (v : α) (h : ∀ s, get (f s) = v) : SetsOrKeeps get f := ⟨some v, h⟩

theorem SetsOrKeeps.comp (hg : SetsOrKeeps get g) (hf : SetsOrKeeps get f) : SetsOrKeeps get (fun s => g (f s)) := by
  obtain ⟨_ | v, hg⟩ := hg
  · obtain ⟨o, hf⟩ := hf
    exact ⟨o, fun s => (hg (f s)).trans (hf s)⟩
  · exact .sets v fun s => hg (f s)

/-- A state that holds what `f` left is left as it is by `f`. -/
theorem SetsOrKeeps.again (hf : SetsOrKeeps get f) {s u : State} (h : get u = get (f s)) : get (f u) = get u := by
  obtain ⟨_ | v, hf⟩ := hf
  · exact hf u
  · exact (hf u).trans (h.trans (hf s)).symm

end SetsOrKeeps

/-! ### Valve frames -/

/-- The channels of a valve bank. -/
def ValveBank.channels (b : ValveBank) (s : State) : Vector Byte nValve :=
  match b with
  | .eng => s.veng
  | .pri => s.vpri
  | .prop => s.vprop

theorem putValve_channels (b : ValveBank) (j : Nat) (v : Byte) (s : State) :
    b.channels (putValve b j v s) = modifyAt (b.channels s) j fun _ => v := by
  cases b <;> rfl

theorem raiseIfShort_channels (b : ValveBank) (p : List Byte) (s : State) :
    b.channels (raiseIfShort p s) = b.channels s := by
  cases b with
  | eng => exact raiseIfShort_veng s p
  | pri => exact raiseIfShort_vpri s p
  | prop => exact raiseIfShort_vprop s p

section ValveFrame

variable (b : ValveBank) {k : Nat} (hk : k < nValve)

include hk

theorem putValve_setsOrKeeps (j : Nat) (v : Byte) : SetsOrKeeps (fun s => (b.channels s)[k]) (putValve b j v) := by
  simp only [SetsOrKeeps, putValve_channels, getElem_modifyAt]
  by_cases h : j = k
  · exact ⟨some v, fun s => if_pos h⟩
  · exact ⟨none, fun s => if_neg h⟩

theorem valveBytes_setsOrKeeps (j : Nat) (p : List Byte) :
    SetsOrKeeps (fun s => (b.channels s)[k]) (valveBytes b j p) := by
  induction p generalizing j with
  | nil => exact .keeps fun _ => rfl
  | cons x xs ih => exact (ih (j + 1)).comp (putValve_setsOrKeeps b hk j x)

theorem valveChannel1_setsOrKeeps (f1 : Byte) : SetsOrKeeps (fun s => (b.channels s)[k]) (valveChannel1 b f1) := by
  unfold valveChannel1
  split_ifs
  · exact .keeps fun _ => rfl
  · exact putValve_setsOrKeeps b hk 1 _

theorem valve_setsOrKeeps (f1 f2 : Byte) (p : List Byte) :
    SetsOrKeeps (fun s => (b.channels s)[k]) (valve b f1 f2 p) := by
  have hshort : SetsOrKeeps (fun s => (b.channels s)[k]) (raiseIfShort p) :=
    .keeps fun s => by rw [raiseIfShort_channels]
  exact hshort.comp ((valveBytes_setsOrKeeps b hk 3 p).comp
    ((putValve_setsOrKeeps b hk 2 (rev8 f2)).comp (valveChannel1_setsOrKeeps b hk f1)))

end ValveFrame

theorem valve_again (b : ValveBank) (f1 f2 : Byte) (p : List Byte) {s u : State}
    (h : b.channels u = b.channels (valve b f1 f2 p s)) : b.channels (valve b f1 f2 p u) = b.channels u :=
  Vector.ext fun _ hk => (valve_setsOrKeeps b hk f1 f2 p).again (by rw [h])

/-! ### Node reports -/

theorem nodeUpdate_setsOrKeeps (n : Nat) (p : List Byte) {k : Nat} (hk : k < nNode) :
    SetsOrKeeps (fun s => s.node[k]) (nodeUpdate n p) := by
  cases p with
  | nil => exact .keeps fun s => by simp only [nodeUpdate, raise_node]
  | cons x xs =>
    cases hv : vehicleState x.toNat with
    | none => exact .keeps fun s => by simp only [nodeUpdate, hv, raise_node]
    | some v =>
      simp only [SetsOrKeeps, nodeUpdate, hv, putNode_node, getElem_modifyAt]
      by_cases h : n = k
      · exact ⟨some v, fun s => if_pos h⟩
      · exact ⟨none, fun s => if_neg h⟩

theorem nodeThenCascade_setsOrKeeps {a : Addr} (ha : 510 < a.toNat ∧ a.toNat < 530) (p : List Byte) {k : Nat}
    (hk : k < nNode) : SetsOrKeeps (fun s => s.node[k]) (nodeThenCascade config a p) := by
  cases hindex : nodeIndexOf config a.toNat with
  | none => exact .keeps fun s => by simp only [nodeThenCascade_of_nodeAddr s ha, node, hindex, raise_node]
  | some n =>
    simpa only [SetsOrKeeps, nodeThenCascade_of_nodeAddr _ ha, node, hindex] using nodeUpdate_setsOrKeeps n p hk

/-! ### Controller frames -/

section ControllerFrame

variable {c ch : Nat} (hc : c < nCtrl) (hch : ch < nChan)

include hc hch

theorem ctrlWrite_setsOrKeeps (c' ch' : Nat) (w : Word) :
    SetsOrKeeps (fun s => s.cbank[c][ch]) (ctrlWrite c' ch' w) := by
  unfold ctrlWrite
  split_ifs
  · by_cases h : c' = c ∧ ch' = ch
    · obtain ⟨rfl, rfl⟩ := h
      exact .sets w fun s => by simp only [putCtrl_cbank, getElem_modifyAt_self]
    · exact .keeps fun s => putCtrl_cbank_getElem_ne s w h hc hch
  · exact .keeps fun s => by simp only [raise_cbank]

theorem genericOrIgnored_setsOrKeeps (a : Addr) (p : List Byte) :
    SetsOrKeeps (fun s => s.cbank[c][ch]) (genericOrIgnored config a p) := by
  unfold genericOrIgnored generic genericAt
  split_ifs
  · exact (ctrlWrite_setsOrKeeps hc hch _ _ _).comp (ctrlWrite_setsOrKeeps hc hch _ _ _)
  · exact ctrlWrite_setsOrKeeps hc hch _ _ _
  · exact .keeps fun s => by simp only [raise_cbank]
  · exact .keeps fun s => by simp only [raise_cbank]

end ControllerFrame

theorem genericOrIgnored_again (a : Addr) (p : List Byte) {s u : State}
    (h : u.cbank = (genericOrIgnored config a p s).cbank) : (genericOrIgnored config a p u).cbank = u.cbank :=
  Vector.ext fun _ hc => Vector.ext fun _ hch => (genericOrIgnored_setsOrKeeps hc hch a p).again (s := s) (by rw [h])

/-! ### The second presentation -/

/-- A state that holds, in the part its class writes, what the instruction left there keeps it. -/
theorem workOf_again {i : Instr} (hclass : Claims.idempotentClass i.frameClass = true) {c : Component}
    (hc : c ∈ writeSet i.frameClass) {s u : State} (h : Unchanged c (workOf i s) u) : Unchanged c u (workOf i u) := by
  cases i with
  | ignore | nodeNop => simp [Instr.frameClass, writeSet] at hc
  | sensor | clock | autoseq | throttle => simp [Instr.frameClass, Claims.idempotentClass] at hclass
  | valveEng f1 f2 p =>
    obtain rfl := List.mem_singleton.1 hc
    exact valve_again .eng f1 f2 p h
  | valvePri f1 f2 p =>
    obtain rfl := List.mem_singleton.1 hc
    exact valve_again .pri f1 f2 p h
  | valveProp f1 f2 p =>
    obtain rfl := List.mem_singleton.1 hc
    exact valve_again .prop f1 f2 p h
  | node514 p | node515 p | node520 p =>
    obtain rfl := List.mem_singleton.1 hc
    exact (nodeThenCascade_setsOrKeeps (by decide) p _).again h
  | ctrlI32 a p | ctrlU32 a p | ctrlF32 a p =>
    obtain rfl := List.mem_singleton.1 hc
    exact genericOrIgnored_again a p h

/-! ### The result code of a frame -/

section ResultCode

variable {s u : State} (h : s.result = u.result)

include h

theorem raise_result_congr (r : Result) : (raise r s).result = (raise r u).result := by
  rw [raise_result, raise_result, h]

theorem raiseIfShort_result_congr (p : List Byte) : (raiseIfShort p s).result = (raiseIfShort p u).result := by
  unfold raiseIfShort
  split_ifs
  · exact raise_result_congr h _
  · exact h

theorem ctrlWrite_result_congr (c ch : Nat) (w : Word) : (ctrlWrite c ch w s).result = (ctrlWrite c ch w u).result := by
  unfold ctrlWrite
  split_ifs
  · simpa only [putCtrl_result] using h
  · exact raise_result_congr h _

theorem genericOrIgnored_result_congr (a : Addr) (p : List Byte) :
    (genericOrIgnored config a p s).result = (genericOrIgnored config a p u).result := by
  unfold genericOrIgnored generic genericAt
  split_ifs
  · exact ctrlWrite_result_congr (ctrlWrite_result_congr h _ _ _) _ _ _
  · exact ctrlWrite_result_congr h _ _ _
  · exact raise_result_congr h _
  · exact raise_result_congr h _

theorem valve_result_congr (b : ValveBank) (f1 f2 : Byte) (p : List Byte) :
    (valve b f1 f2 p s).result = (valve b f1 f2 p u).result :=
  raiseIfShort_result_congr (by simpa using h) p

theorem nodeUpdate_result_congr (n : Nat) (p : List Byte) : (nodeUpdate n p s).result = (nodeUpdate n p u).result := by
  cases p with
  | nil => exact raise_result_congr h _
  | cons x xs =>
    cases hv : vehicleState x.toNat with
    | none => simpa only [nodeUpdate, hv] using raise_result_congr h _
    | some v => simpa only [nodeUpdate, hv, putNode_result] using h

theorem nodeThenCascade_result_congr {a : Addr} (ha : 510 < a.toNat ∧ a.toNat < 530) (p : List Byte) :
    (nodeThenCascade config a p s).result = (nodeThenCascade config a p u).result := by
  rw [nodeThenCascade_of_nodeAddr s ha, nodeThenCascade_of_nodeAddr u ha, node, node]
  cases nodeIndexOf config a.toNat with
  | none => exact raise_result_congr h _
  | some n => exact nodeUpdate_result_congr h n p

/-- The result code of a frame of an idempotent class depends on no element of the store. -/
theorem workOf_result_congr {i : Instr} (hi : i.wellFormed = true)
    (hclass : Claims.idempotentClass i.frameClass = true) : (workOf i s).result = (workOf i u).result := by
  cases i with
  | ignore a p => exact raise_result_congr h _
  | sensor | clock | autoseq | throttle => simp [Instr.frameClass, Claims.idempotentClass] at hclass
  | nodeNop a p =>
    simp only [Instr.wellFormed, Instr.addressOk, nodeNopAddr, Bool.and_eq_true, Bool.or_eq_true,
      decide_eq_true_eq] at hi
    exact nodeThenCascade_result_congr h (by omega) p
  | node514 p | node515 p | node520 p => exact nodeThenCascade_result_congr h (by decide) p
  | valveEng f1 f2 p | valvePri f1 f2 p | valveProp f1 f2 p => exact valve_result_congr h _ f1 f2 p
  | ctrlI32 a p | ctrlU32 a p | ctrlF32 a p => exact genericOrIgnored_result_congr h a p

end ResultCode

/-- The parts of R46, FRAME_COUNT, the result code and the host's queue are the whole state. -/
theorem state_eq_of_unchanged {s t : State} (hparts : ∀ c, Unchanged c s t) (hcount : t.frameCount = s.frameCount)
    (hresult : t.result = s.result) (hinbox : t.inbox = s.inbox) : t = s := by
  obtain ⟨hsval, hstime, hsledger⟩ := hparts .sensorBanks
  obtain ⟨hrcLast, hrcAcc⟩ := hparts .rolloverClock
  obtain ⟨hasValid, hasTime, hasDup, hasLedger⟩ := hparts .autosequence
  have hnode : t.node = s.node := Vector.ext fun k hk =>
    match k, hk with
    | 0, _ => hparts .node0
    | 1, _ => hparts .node1
    | 2, _ => hparts .node2
  exact State.ext hsval hstime hsledger hrcLast hrcAcc (hparts .vpri) (hparts .veng) (hparts .vprop) hnode
    (hparts .cbank) hasValid hasTime hasDup hasLedger (hparts .throttlePoints) (hparts .debugLedger) hcount hresult
    hinbox

/-- Settles O19: outside its write set a frame keeps the store; inside, the frame sets each element to a value of its
own or keeps it, so the second presentation finds there what it would leave. -/
theorem bankFramesAreIdempotent : Obligations.BankFramesAreIdempotent := by
  intro i s t hi hclass hfirst
  rw [exec_next_iff] at hfirst
  have hparts (c : Component) : Unchanged c t (workOf i (beginStep t)) := by
    refine (unchanged_beginStep c t).trans ?_
    by_cases hc : c ∈ writeSet i.frameClass
    · have hheld : Unchanged c (workOf i (beginStep s)) (beginStep t) := by
        rw [hfirst]
        exact (unchanged_countFrame c _).trans (unchanged_beginStep c _)
      exact workOf_again hclass hc hheld
    · exact (workOf_updates hi _).unchanged hc
  have hresult : (workOf i (beginStep t)).result = t.result := by
    rw [hfirst, countFrame_result]
    exact workOf_result_congr (by simp only [beginStep_result]) hi hclass
  have hkept : workOf i (beginStep t) = t := state_eq_of_unchanged hparts (by simp) hresult (by simp)
  rw [exec_eq, hkept, countFrame]

end Sys2Proof.Machine
end

section
/-! SUPPORT. The fields of an identifier: what the decoder reads back from the identifiers the encoder builds, and what
is left of an identifier under a class's read mask (30_encoding.md R82 to R84). -/

namespace Sys2Proof

/-! ### The fields of a built identifier -/

theorem valveField1_toNat (id : Word) : (valveField1 id).toNat = id.toNat / 2 ^ 12 % 2 ^ 8 := by
  rw [valveField1, BitVec.extractLsb'_toNat, Nat.shiftRight_eq_div_pow]

/-- Channel 2 at the default VALVE_CH2_FIELD (decision D12). -/
theorem valveField2_config (id : Word) : valveField2 config id = id.extractLsb' 20 8 := rfl

theorem valveField2_toNat (id : Word) : (valveField2 config id).toNat = id.toNat / 2 ^ 20 % 2 ^ 8 := by
  rw [valveField2_config, BitVec.extractLsb'_toNat, Nat.shiftRight_eq_div_pow]

theorem valveId_toNat {n : Nat} (hn : n < 2048) (f1 f2 : Byte) :
    (valveId n f1 f2).toNat = f2.toNat * 2 ^ 20 + f1.toNat * 2 ^ 12 + n := by
  rw [valveId, BitVec.toNat_ofNat, Nat.mod_eq_of_lt (by omega)]

@[simp] theorem cntOf_sensorId (a : Addr) (cnt : BitVec 21) : cntOf (sensorId a cnt) = cnt :=
  BitVec.extractLsb'_append_eq_left

theorem valveField1_valveId {n : Nat} (hn : n < 2048) (f1 f2 : Byte) :
    valveField1 (valveId n f1 f2) = f1 := by
  apply BitVec.eq_of_toNat_eq
  rw [valveField1_toNat, valveId_toNat hn]
  omega

theorem valveField2_valveId {n : Nat} (hn : n < 2048) (f1 f2 : Byte) :
    valveField2 config (valveId n f1 f2) = f2 := by
  apply BitVec.eq_of_toNat_eq
  rw [valveField2_toNat, valveId_toNat hn]
  omega

/-! ### Identifiers rebuilt from their fields -/

/-- The bits under a mask of `n` ones above `k` zeros. -/
theorem and_shifted_ones (x k n : Nat) : x &&& (2 ^ n - 1) * 2 ^ k = x / 2 ^ k % 2 ^ n * 2 ^ k := by
  simp only [← Nat.shiftLeft_eq, ← Nat.shiftRight_eq_div_pow, ← Nat.and_two_pow_sub_one_eq_mod]
  apply Nat.eq_of_testBit_eq
  intro i
  by_cases hi : k ≤ i <;> simp [hi, Bool.and_comm]

theorem plainId_addrOf (id : Word) : plainId (addrOf id).toNat = id &&& 0x7FF := by
  apply BitVec.eq_of_toNat_eq
  have hmask : (id &&& 0x7FF).toNat = id.toNat % 2 ^ 11 := Nat.and_two_pow_sub_one_eq_mod id.toNat 11
  rw [hmask, plainId, addrOf_toNat, BitVec.toNat_ofNat]
  omega

theorem sensorId_addrOf_cntOf (id : Word) : sensorId (addrOf id) (cntOf id) = id :=
  BitVec.extractLsb'_append_extractLsb'

theorem valveId_addrOf_fields (id : Word) :
    valveId (addrOf id).toNat (valveField1 id) (valveField2 config id) = id &&& 0x0FFFF7FF := by
  apply BitVec.eq_of_toNat_eq
  have hmask : (id &&& 0x0FFFF7FF).toNat = id.toNat / 2 ^ 12 % 2 ^ 16 * 2 ^ 12 + id.toNat % 2 ^ 11 := by
    calc id.toNat &&& 0x0FFFF7FF
      _ = id.toNat &&& ((2 ^ 16 - 1) * 2 ^ 12 ||| (2 ^ 11 - 1)) := rfl
      _ = id.toNat / 2 ^ 12 % 2 ^ 16 * 2 ^ 12 ||| id.toNat % 2 ^ 11 := by
        rw [Nat.and_or_distrib_left, and_shifted_ones, Nat.and_two_pow_sub_one_eq_mod]
      _ = id.toNat / 2 ^ 12 % 2 ^ 16 * 2 ^ 12 + id.toNat % 2 ^ 11 := by
        rw [Nat.mul_comm, Nat.two_pow_add_eq_or_of_lt (by omega)]
  rw [hmask, valveId_toNat (addrOf id).isLt, valveField1_toNat, valveField2_toNat, addrOf_toNat]
  omega

/-! ### Fields under a read mask -/

/-- A mask that keeps every bit of a field keeps the field. -/
theorem extractLsb'_and_of_allOnes {w start len : Nat} (x : BitVec w) {m : BitVec w}
    (hm : m.extractLsb' start len = BitVec.allOnes len) : (x &&& m).extractLsb' start len = x.extractLsb' start len := by
  rw [BitVec.extractLsb'_and, hm, BitVec.and_allOnes]

/-- Every class reads the whole address (30_encoding.md R82, R83, R84). -/
@[simp] theorem addrOf_and_readMask (id : Word) (c : FrameClass) : addrOf (id &&& readMask c) = addrOf id :=
  extractLsb'_and_of_allOnes id (by cases c <;> rfl)

/-- The instruction of a class depends on no identifier bit that the class does not read. -/
theorem instrOf_and_readMask (c : FrameClass) (id : Word) (p : List Byte) :
    instrOf config c ⟨id &&& readMask c, p⟩ = instrOf config c ⟨id, p⟩ := by
  cases c with
  | sensor =>
    have hcnt : cntOf (id &&& readMask .sensor) = cntOf id := extractLsb'_and_of_allOnes id rfl
    simp only [instrOf, addrOf_and_readMask, hcnt]
  | valveEng | valvePri | valveProp =>
    have hfield1 : valveField1 (id &&& 0x0FFFF7FF) = valveField1 id := extractLsb'_and_of_allOnes id rfl
    have hfield2 : valveField2 config (id &&& 0x0FFFF7FF) = valveField2 config id := extractLsb'_and_of_allOnes id rfl
    simp only [instrOf, readMask, hfield1, hfield2]
  | _ => simp only [instrOf, addrOf_and_readMask]

/-! ### The classes of one address -/

/-- The address of a class that has only one (30_encoding.md R91, R92). -/
def soleAddr : FrameClass → Option Nat
  | .clock => some 268
  | .node514 => some 514
  | .node515 => some 515
  | .node520 => some 520
  | .valveEng => some 546
  | .valvePri => some 552
  | .valveProp => some 547
  | .autoseq => some 1100
  | .throttle => some 1506
  | _ => none

theorem toNat_of_classOf {a : Addr} {c : FrameClass} {n : Nat} (hc : classOf config a = c) :
    soleAddr c = some n → a.toNat = n := by
  rw [← hc, classOf_config]
  repeat' refine iteInduction (motive := fun c => soleAddr c = some n → a.toNat = n) (fun _ => ?_) (fun _ => ?_)
  all_goals simp only [soleAddr, Option.some.injEq, reduceCtorEq, false_imp_iff]
  all_goals omega

theorem classOf_of_soleAddr {c : FrameClass} {a : Addr} (h : soleAddr c = some a.toNat) : classOf config a = c := by
  rw [classOf_config]
  cases c <;> simp only [soleAddr, Option.some.injEq, reduceCtorEq] at h <;> simp [← h]

end Sys2Proof
end

section
/-! SUPPORT. The statements of 30_encoding.md on the decoder and the encoder: the round trips, unread identifier bits,
the valve fields, table words. -/

namespace Sys2Proof.Machine

/-! ### The round trips -/

/-- The identifier the encoder writes selects the instruction's own class (30_encoding.md R91, R92). -/
theorem classOf_identifier (i : Instr) : i.wellFormed = true → classOf config (addrOf i.identifier) = i.frameClass := by
  cases i with
  | ignore a p => exact Laws.EncodeClass.ignore a p
  | sensor a cnt p => exact Laws.EncodeClass.sensor a cnt p
  | clock p => exact Laws.EncodeClass.clock p
  | nodeNop a p => exact Laws.EncodeClass.nodeNop a p
  | node514 p => exact Laws.EncodeClass.node514 p
  | node515 p => exact Laws.EncodeClass.node515 p
  | node520 p => exact Laws.EncodeClass.node520 p
  | valveEng f1 f2 p => exact Laws.EncodeClass.valveEng f1 f2 p
  | valvePri f1 f2 p => exact Laws.EncodeClass.valvePri f1 f2 p
  | valveProp f1 f2 p => exact Laws.EncodeClass.valveProp f1 f2 p
  | autoseq p => exact Laws.EncodeClass.autoseq p
  | throttle p => exact Laws.EncodeClass.throttle p
  | ctrlI32 a p => exact Laws.EncodeClass.ctrlI32 a p
  | ctrlU32 a p => exact Laws.EncodeClass.ctrlU32 a p
  | ctrlF32 a p => exact Laws.EncodeClass.ctrlF32 a p

/-- The operands the encoder writes into a frame are read back. -/
theorem instrOf_encode (i : Instr) : instrOf config i.frameClass (encode i) = i := by
  cases i with
  | ignore a p | nodeNop a p | ctrlI32 a p | ctrlU32 a p | ctrlF32 a p =>
    simp only [Instr.frameClass, instrOf, encode, Instr.identifier, Instr.payload, addrOf_plainId]
  | sensor a cnt p =>
    simp only [Instr.frameClass, instrOf, encode, Instr.identifier, Instr.payload, addrOf_sensorId, cntOf_sensorId]
  | valveEng f1 f2 p | valvePri f1 f2 p | valveProp f1 f2 p =>
    simp only [Instr.frameClass, instrOf, encode, Instr.identifier, Instr.payload]
    rw [valveField1_valveId (by decide), valveField2_valveId (by decide)]
  | clock p | node514 p | node515 p | node520 p | autoseq p | throttle p => rfl

/-- Settles O3: the encoder's identifier selects the instruction's class, and the class reads its operands back. -/
theorem decodeOfEncodeIsIdentity : Obligations.DecodeOfEncodeIsIdentity := by
  intro i hi
  have hlen : i.payload.length ≤ maxLen := by
    simp only [Instr.wellFormed, Instr.payloadOk, Bool.and_eq_true, decide_eq_true_eq] at hi
    exact hi.1
  refine (decode_eq_ok_iff (encode i) i).2 ⟨hlen, ?_⟩
  calc i
    _ = instrOf config i.frameClass (encode i) := (instrOf_encode i).symm
    _ = instrOf config (classOf config (addrOf (encode i).identifier)) (encode i) := by
      rw [encode, classOf_identifier i hi]

/-- The encoder writes the identifier bits the frame's class reads, and no others. -/
theorem identifier_instrOf {f : RawFrame} {c : FrameClass} (hc : classOf config (addrOf f.identifier) = c) :
    (instrOf config c f).identifier = f.identifier &&& readMask c := by
  have hplain {n : Nat} (hn : soleAddr c = some n) : plainId n = f.identifier &&& 0x7FF := by
    rw [← toNat_of_classOf hc hn, plainId_addrOf]
  have hvalve {n : Nat} (hn : soleAddr c = some n) :
      valveId n (valveField1 f.identifier) (valveField2 config f.identifier) = f.identifier &&& 0x0FFFF7FF := by
    rw [← toNat_of_classOf hc hn, valveId_addrOf_fields]
  cases c with
  | ignore | nodeNop | ctrlI32 | ctrlU32 | ctrlF32 => exact plainId_addrOf f.identifier
  | sensor => exact (sensorId_addrOf_cntOf f.identifier).trans BitVec.and_allOnes.symm
  | valveEng | valvePri | valveProp => exact hvalve rfl
  | clock | node514 | node515 | node520 | autoseq | throttle => exact hplain rfl

/-- Settles O4: what is decoded is `instrOf` the frame's class, whose fields rebuild the bits that class reads. -/
theorem encodeOfDecodeKeepsReadBits : Obligations.EncodeOfDecodeKeepsReadBits := by
  intro f i h
  refine ⟨wellFormed_of_decode h, ?_⟩
  obtain ⟨_, rfl⟩ := (decode_eq_ok_iff f i).1 h
  rw [encode, frameClass_instrOf, payload_instrOf, identifier_instrOf rfl]

/-! ### The identifier bits a class reads -/

/-- Settles O7: equal read bits hold the same address, so the same class, and give it the same operands. -/
theorem unreadIdentifierBitsHaveNoEffect : Obligations.UnreadIdentifierBitsHaveNoEffect := by
  rintro ⟨id, p⟩ ⟨id', p'⟩ hpayload hread
  obtain rfl : p = p' := hpayload
  have haddr : addrOf id = addrOf id' := by
    rw [← addrOf_and_readMask id, hread, addrOf_and_readMask]
  have hinstr : instrOf config (classOf config (addrOf id)) ⟨id, p⟩ =
      instrOf config (classOf config (addrOf id)) ⟨id', p⟩ := by
    rw [← instrOf_and_readMask, hread, instrOf_and_readMask]
  rw [decode, decode, decodeWith, decodeWith, hinstr, haddr]

/-- Settles O8: the fields are cut from the identifier, and each of the three addresses selects its own class. -/
theorem valveFieldsComeFromIdentifier : Obligations.ValveFieldsComeFromIdentifier := by
  intro id p hlen
  have hdecode {c : FrameClass} {n : Nat} (hn : soleAddr c = some n) (ha : (addrOf id).toNat = n) :
      decode ⟨id, p⟩ = .ok (instrOf config c ⟨id, p⟩) := by
    rw [decode_eq_ok_iff, classOf_of_soleAddr (ha ▸ hn)]
    exact ⟨hlen, rfl⟩
  refine ⟨valveField1 id, valveField2 config id, fun k hk => ?_, hdecode (c := .valveEng) rfl,
    hdecode (c := .valvePri) rfl, hdecode (c := .valveProp) rfl⟩
  simp [valveField1, valveField2_config, hk]

/-! ### Frames written out, and table words -/

/-- Settles O2, by evaluating the decoder on each of the five frames. -/
theorem sampleFramesDecode : Obligations.SampleFramesDecode :=
  ⟨by decide, by decide, by decide, by decide, by decide⟩

theorem decodeTableWord_eq_some_iff (nbits w : Nat) (i : Instr) :
    decodeTableWord nbits w = some i ↔ decode (frameOfWord nbits w) = .ok i := by
  cases hd : decode (frameOfWord nbits w) <;> simp [decodeTableWord, hd]

theorem pushFrame_of_decode {f : RawFrame} {i : Instr} (h : decode f = .ok i) (s : State) :
    pushFrame f s = exec i s := by
  rw [pushFrame, h]

/-- Settles O15: the placed frame is the next operation, and performing it leaves the queue as it was before. -/
theorem tableWordRunsAsNextFrame : Obligations.TableWordRunsAsNextFrame := by
  intro s nbits w i h
  have hplaced : step (s.withFetchWord nbits w) = pushFrame (frameOfWord nbits w) s := step_of_frame rfl
  rw [hplaced, pushFrame_of_decode ((decodeTableWord_eq_some_iff nbits w i).1 h)]

end Sys2Proof.Machine
end

section
/-! SUPPORT. The opcode table as blocks of addresses (30_encoding.md R101): a row selects an aligned block, the blocks
in the order of their addresses tile 0..2047, and each lies inside the addresses of its class. -/

namespace Sys2Proof

/-! ### A row is a block of addresses -/

/-- The first address of a row. -/
def OpcodeRow.first (r : OpcodeRow) : Nat := r.matchBits.toNat

/-- The last address of a row: the address bits outside its mask are free. -/
def OpcodeRow.last (r : OpcodeRow) : Nat := r.matchBits.toNat + (2047 - r.mask.toNat)

/-- The mask leaves the low `k` address bits free, and the match has zeros there. -/
def OpcodeRow.Aligned (r : OpcodeRow) : Prop :=
  ∃ k < 12, r.mask.toNat = (2 ^ (11 - k) - 1) * 2 ^ k ∧ 2 ^ k ∣ r.matchBits.toNat

/-- The block of a row contains an address. -/
def OpcodeRow.covers (r : OpcodeRow) (n : Nat) : Bool := r.first ≤ n && n ≤ r.last

theorem OpcodeRow.covers_iff (r : OpcodeRow) (n : Nat) : r.covers n = true ↔ r.first ≤ n ∧ n ≤ r.last := by
  rw [covers, Bool.and_eq_true, decide_eq_true_eq, decide_eq_true_eq]

/-- An aligned row selects the identifiers whose address lies in its block. -/
theorem OpcodeRow.selects_eq_covers {r : OpcodeRow} (h : r.Aligned) (id : Word) :
    r.selects id = r.covers (addrOf id).toNat := by
  obtain ⟨k, hk, hmask, q, hq⟩ := h
  have hpos : 0 < 2 ^ k := Nat.two_pow_pos k
  have hsplit : 2 ^ k * 2 ^ (11 - k) = 2048 := by
    rw [← pow_add, Nat.add_sub_cancel' (by omega)]
    rfl
  have hle : 2 ^ k ≤ 2048 := hsplit ▸ Nat.le_mul_of_pos_right _ (Nat.two_pow_pos _)
  have hfree : 2047 - r.mask.toNat = 2 ^ k - 1 := by
    rw [hmask, Nat.sub_one_mul, Nat.mul_comm (2 ^ (11 - k)), hsplit]
    omega
  have hblock : id.toNat / 2 ^ k % 2 ^ (11 - k) = (addrOf id).toNat / 2 ^ k := by
    rw [addrOf_toNat, ← hsplit, Nat.mod_mul_right_div_self]
  rw [Bool.eq_iff_iff, covers_iff, first, last, hfree, selects, beq_iff_eq, ← BitVec.toNat_inj, BitVec.toNat_and, hmask,
    and_shifted_ones, hblock, hq, Nat.mul_comm (2 ^ k) q, Nat.mul_left_inj hpos.ne', Nat.div_eq_iff hpos,
    Nat.add_sub_assoc hpos]

/-! ### Blocks that tile the addresses -/

/-- Each block begins where the one before it ended, from `lo` up to `hi`. -/
def tiles : Nat → List OpcodeRow → Nat → Bool
  | lo, [], hi => lo == hi
  | lo, r :: rows, hi => r.first == lo && tiles (r.last + 1) rows hi

theorem filter_covers_eq_nil {rows : List OpcodeRow} {lo hi n : Nat} (h : tiles lo rows hi = true) (hn : n < lo) :
    rows.filter (·.covers n) = [] := by
  induction rows generalizing lo with
  | nil => rfl
  | cons r rows ih =>
    simp only [tiles, Bool.and_eq_true, beq_iff_eq] at h
    obtain ⟨hfirst, hrest⟩ := h
    have hlast : r.first ≤ r.last := Nat.le_add_right _ _
    rw [List.filter_cons_of_neg (by rw [r.covers_iff]; omega), ih hrest (by omega)]

/-- Exactly one block of a tiling contains an address. -/
theorem exists_filter_covers {rows : List OpcodeRow} {lo hi n : Nat} (h : tiles lo rows hi = true) (hlo : lo ≤ n)
    (hhi : n < hi) : ∃ r, rows.filter (·.covers n) = [r] := by
  induction rows generalizing lo with
  | nil =>
    simp only [tiles, beq_iff_eq] at h
    omega
  | cons r rows ih =>
    simp only [tiles, Bool.and_eq_true, beq_iff_eq] at h
    obtain ⟨hfirst, hrest⟩ := h
    rcases Nat.lt_or_ge r.last n with hbeyond | hwithin
    · rw [List.filter_cons_of_neg (by rw [r.covers_iff]; omega)]
      exact ih hrest hbeyond
    · refine ⟨r, ?_⟩
      rw [List.filter_cons_of_pos (by rw [r.covers_iff]; omega), filter_covers_eq_nil hrest (by omega)]

/-! ### A block inside the addresses of a class -/

/-- All addresses from `lo` to `hi` are of the class, told from the two ends (30_encoding.md R91, R92). -/
def spanOfClass (c : FrameClass) (lo hi : Nat) : Bool :=
  match c with
  | .ignore => hi ≤ 50 || (427 ≤ lo && hi ≤ 510) || (530 ≤ lo && hi ≤ 545) || (548 ≤ lo && hi ≤ 551) ||
      (553 ≤ lo && hi ≤ 1000)
  | .sensor => (51 ≤ lo && hi ≤ 267) || (269 ≤ lo && hi ≤ 426)
  | .nodeNop => (511 ≤ lo && hi ≤ 513) || (516 ≤ lo && hi ≤ 519) || (521 ≤ lo && hi ≤ 529)
  | .ctrlI32 => lo == hi && ctrlI32Addr lo
  | .ctrlU32 => 1001 ≤ lo && 14 ≤ lo % 100 && lo % 100 + (hi - lo) ≤ 15
  | .ctrlF32 => 1001 ≤ lo && (lo % 100 + (hi - lo) ≤ 13 || (16 ≤ lo % 100 && lo % 100 + (hi - lo) ≤ 113)) &&
      [1100, 1502, 1504, 1506].all fun n => n < lo || hi < n
  | c => lo == hi && soleAddr c == some lo

theorem classOf_of_spanOfClass {c : FrameClass} {lo hi : Nat} {a : Addr} (h : spanOfClass c lo hi = true)
    (hlo : lo ≤ a.toNat) (hhi : a.toNat ≤ hi) : classOf config a = c := by
  cases c with
  | ignore =>
    refine classOf_ignore a ?_
    simp only [spanOfClass, ignoreAddr, Bool.or_eq_true, Bool.and_eq_true, decide_eq_true_eq] at h ⊢
    omega
  | sensor =>
    refine classOf_sensor a ?_
    simp only [spanOfClass, sensorAddr, Bool.or_eq_true, Bool.and_eq_true, decide_eq_true_eq] at h ⊢
    omega
  | nodeNop =>
    refine classOf_nodeNop a ?_
    simp only [spanOfClass, nodeNopAddr, Bool.or_eq_true, Bool.and_eq_true, decide_eq_true_eq] at h ⊢
    omega
  | ctrlI32 =>
    simp only [spanOfClass, Bool.and_eq_true, beq_iff_eq] at h
    obtain ⟨rfl, haddr⟩ := h
    obtain rfl : lo = a.toNat := Nat.le_antisymm hlo hhi
    exact classOf_ctrlI32 a haddr
  | ctrlU32 =>
    refine classOf_ctrlU32 a ?_
    simp only [spanOfClass, ctrlU32Addr, Bool.or_eq_true, Bool.and_eq_true, decide_eq_true_eq, beq_iff_eq] at h ⊢
    omega
  | ctrlF32 =>
    refine classOf_ctrlF32 a ?_
    simp only [spanOfClass, List.all_cons, List.all_nil, Bool.or_eq_true, Bool.and_eq_true, decide_eq_true_eq] at h
    simp only [ctrlF32Addr, ctrlI32Addr, ctrlU32Addr, Bool.and_eq_true, Bool.not_eq_true', Bool.or_eq_false_iff,
      Bool.and_eq_false_iff, bne_iff_ne, ne_eq, beq_eq_false_iff_ne, decide_eq_true_eq, decide_eq_false_iff_not]
    omega
  | _ =>
    simp only [spanOfClass, Bool.and_eq_true, beq_iff_eq] at h
    obtain ⟨rfl, hsole⟩ := h
    obtain rfl : lo = a.toNat := Nat.le_antisymm hlo hhi
    exact classOf_of_soleAddr hsole

/-! ### The rows of the table -/

/-- The rows in the order of their addresses. -/
def sortedOpcodeTable : List OpcodeRow := opcodeTable.insertionSort fun r r' => r.first ≤ r'.first

theorem tiles_sortedOpcodeTable : tiles 0 sortedOpcodeTable 2048 = true := by decide +kernel

theorem aligned_of_mem_opcodeTable : ∀ r ∈ opcodeTable, r.Aligned := by
  unfold OpcodeRow.Aligned
  decide +kernel

theorem spanOfClass_of_mem_opcodeTable : ∀ r ∈ opcodeTable, spanOfClass r.cls r.first r.last = true := by
  decide +kernel

/-- A row that selects an identifier names the class of its address. -/
theorem cls_of_selects {r : OpcodeRow} (hr : r ∈ opcodeTable) {id : Word} (h : r.selects id = true) :
    classOf config (addrOf id) = r.cls := by
  rw [OpcodeRow.selects_eq_covers (aligned_of_mem_opcodeTable r hr), r.covers_iff] at h
  obtain ⟨hfirst, hlast⟩ := h
  exact classOf_of_spanOfClass (spanOfClass_of_mem_opcodeTable r hr) hfirst hlast

/-- Exactly one row selects an identifier. -/
theorem exists_filter_selects (id : Word) : ∃ r, opcodeTable.filter (·.selects id) = [r] := by
  obtain ⟨r, hr⟩ := exists_filter_covers tiles_sortedOpcodeTable (Nat.zero_le _) (addrOf id).isLt
  have hcovers : opcodeTable.filter (·.selects id) = opcodeTable.filter (·.covers (addrOf id).toNat) :=
    List.filter_congr fun r hr => OpcodeRow.selects_eq_covers (aligned_of_mem_opcodeTable r hr) id
  have hperm := (List.perm_insertionSort (fun r r' => r.first ≤ r'.first) opcodeTable).filter
    (·.covers (addrOf id).toNat)
  exact ⟨r, hcovers ▸ List.perm_singleton.1 (hperm.symm.trans (.of_eq hr))⟩

end Sys2Proof

namespace Sys2Proof.Machine

/-- Settles O5: the sorted rows tile the addresses, and each row stays inside its class. -/
theorem opcodeTableSelectsOneRow : Obligations.OpcodeTableSelectsOneRow := by
  refine ⟨by decide +kernel, fun id => ?_⟩
  obtain ⟨r, hr⟩ := exists_filter_selects id
  obtain ⟨hmem, hselects⟩ := List.mem_filter.1 (hr ▸ List.mem_singleton_self r)
  rw [hr, List.map_singleton, cls_of_selects hmem hselects]

end Sys2Proof.Machine
end

section
/-! SUPPORT. The statements of 40_dispatch.md: the logical address, the priority list against the address map, the
cascade's second pass, what is decoded to nothing, and the count of frames. -/

namespace Sys2Proof.Machine

/-! ### The logical address -/

theorem toNat_and_lowEleven (id : Word) : (id &&& 0x7FF#32).toNat = (addrOf id).toNat := by
  have hlt := (addrOf id).isLt
  have hplain : plainId (addrOf id).toNat = id &&& 0x7FF#32 := plainId_addrOf id
  rw [← hplain, plainId, BitVec.toNat_ofNat]
  omega

/-- Settles O1: the masked identifier is the plain identifier of the address, so it holds the address and no more. -/
theorem addressIsLowElevenBits : Obligations.AddressIsLowElevenBits := by
  refine ⟨fun id => (toNat_and_lowEleven id).symm, fun id id' hmask => ?_, by decide, by decide, by decide⟩
  apply BitVec.eq_of_toNat_eq
  rw [← toNat_and_lowEleven, hmask, toNat_and_lowEleven]

/-! ### The cascade's second pass -/

/-- With step 5 not eligible the priority list leads a node-state address nowhere (40_dispatch.md R119). -/
theorem route_secondPass {a : Addr} (ha : 510 < a.toNat ∧ a.toNat < 530) : route config a 1 = .nowhere := by
  rw [route_config]
  iterate 7 rw [if_neg (by omega)]

/-- Settles O10: the second pass is led nowhere, and step 8 of a second pass raises nothing. -/
theorem secondPassOfCascadeChangesNothing : Obligations.SecondPassOfCascadeChangesNothing := by
  intro f s hlo hhi
  simp only [cascade, route_secondPass ⟨hlo, hhi⟩]

/-! ### The priority list and the address map -/

/-- The classes of the node-state addresses are the Node State Tracker at the frame's address (43_node_state.md
R170). -/
theorem workOf_nodeClassOf (f : RawFrame) (s : State) :
    workOf (instrOf config (nodeClassOf config (addrOf f.identifier).toNat) f) s =
      nodeThenCascade config (addrOf f.identifier) f.payload s := by
  have haddr {n : Nat} (h : (addrOf f.identifier).toNat = n) : BitVec.ofNat 11 n = addrOf f.identifier := by
    rw [← h, BitVec.ofNat_toNat, BitVec.setWidth_eq]
  unfold nodeClassOf
  split_ifs with h514 h515 h520
  · rw [← haddr h514]; rfl
  · rw [← haddr h515]; rfl
  · rw [← haddr h520]; rfl
  · rfl

/-- The controller classes are the branches of the sub-dispatch CTRL (44_controller.md R180). -/
theorem workOf_ctrlClassOf (f : RawFrame) (s : State) :
    workOf (instrOf config (ctrlClassOf config (addrOf f.identifier).toNat) f) s =
      ctrl config (addrOf f.identifier) f.payload s := by
  unfold ctrlClassOf ctrl
  split_ifs <;> rfl

/-- The address map asks what the priority list asks, in the same order; only a node-state or a controller address
is classified further (40_dispatch.md R112). -/
theorem workOf_classOf (f : RawFrame) (s : State) :
    workOf (instrOf config (classOf config (addrOf f.identifier)) f) s = dispatch config f s := by
  simp only [classOf, dispatch, route, and_true]
  split_ifs with hclock heng hpri hprop hnode hsensor hctrl
  · rfl
  · rfl
  · rfl
  · rfl
  · rw [workOf_nodeClassOf, nodeThenCascade_of_nodeAddr s hnode]
    exact (secondPassOfCascadeChangesNothing f _ hnode.1 hnode.2).symm
  · rfl
  · exact workOf_ctrlClassOf f s
  · rfl

/-- Settles O9: exec is the work of the instruction between the two ends of the step, and that work is the
Dispatcher's. -/
theorem execIsThePriorityDispatcher : Obligations.ExecIsThePriorityDispatcher := by
  intro f i s hdecode
  obtain ⟨_, rfl⟩ := (decode_eq_ok_iff f i).1 hdecode
  rw [exec_eq, workOf_classOf]

/-! ### Frames that only count -/

/-- A frame whose work only raises a code leaves that code and counts. -/
theorem countFrame_raise_beginStep (r : Result) (s : State) :
    countFrame (raise r (beginStep s)) = Claims.counted r s := by
  rw [raise, beginStep_result, join_done]
  rfl

theorem exec_eq_counted {i : Instr} {r : Result} (h : ∀ s, workOf i s = raise r s) (s : State) :
    exec i s = .next (Claims.counted r s) := by
  rw [exec_eq, h, countFrame_raise_beginStep]

/-- Settles O21: the work of IGNORE is to raise IGNORED, and the ranges are the addresses of its class. -/
theorem ignoreFrameOnlyCounts : Obligations.IgnoreFrameOnlyCounts := by
  refine ⟨fun a p => exec_eq_counted fun _ => rfl, ?_⟩
  rintro f hlen ⟨n, rfl, hrange⟩
  have haddr : ignoreAddr (addrOf f.identifier).toNat = true := by
    simpa [ignoreAddr, or_assoc] using hrange
  rw [decode_eq_ok_iff, classOf_ignore _ haddr]
  exact ⟨hlen, rfl⟩

/-- At an address that names no node the tracker only raises IGNORED, and its cascade adds nothing (43_node_state.md
R175). -/
theorem nodeThenCascade_of_nodeNopAddr {a : Addr} (ha : nodeNopAddr a.toNat = true) (p : List Byte) (s : State) :
    nodeThenCascade config a p s = raise .ignored s := by
  simp only [nodeNopAddr, Bool.or_eq_true, Bool.and_eq_true, decide_eq_true_eq] at ha
  have hindex : nodeIndexOf config a.toNat = none := by
    rw [nodeIndexOf_config]
    iterate 3 rw [if_neg (by omega)]
  rw [nodeThenCascade_of_nodeAddr s (by omega), node, hindex]

/-- Settles O22: the addresses of NODE.NOP name no node. -/
theorem nodeNopFrameOnlyCounts : Obligations.NodeNopFrameOnlyCounts := by
  intro a p s hi
  obtain ⟨_, haddr⟩ := Bool.and_eq_true_iff.1 hi
  exact exec_eq_counted (i := .nodeNop a p) (nodeThenCascade_of_nodeNopAddr haddr p) s

/-! ### One step per frame -/

/-- Settles O11: performing the next operation presents its frame, and the frame runs as what it decodes to. -/
theorem stepRunsTheDecodedFrame : Obligations.StepRunsTheDecodedFrame := by
  intro s f rest i hin hdecode
  rw [step_of_frame hin, pushFrame_of_decode hdecode]

/-- Settles O16: no work touches FRAME_COUNT or the host's queue, and the end of the step counts once. -/
theorem everyFrameIsCountedOnce : Obligations.EveryFrameIsCountedOnce := by
  intro i s
  refine ⟨_, exec_eq i s, ?_, ?_⟩
  · rw [countFrame_frameCount, workOf_frameCount, beginStep_frameCount]
  · rw [countFrame_inbox, workOf_inbox, beginStep_inbox]

end Sys2Proof.Machine
end

section
/-! SUPPORT. Roundings that are exact: a number of at most 53 significant bits is its own rounding (00_scope.md R15). -/

namespace Sys2Proof.Machine

open Sys2Proof.Claims

theorem exists_magnitudeUnits_eq {a : Nat} (ha : a < 2 ^ 53) (e : Nat) : ∃ m, magnitudeUnits m = a * 2 ^ e := by
  induction e generalizing a with
  | zero => exact ⟨_, magnitudeUnits_scaled (k := 0) ha.le (.inl rfl)⟩
  | succ e ih =>
    rcases Nat.lt_or_ge a (2 ^ 52) with hsmall | hnormal
    · obtain ⟨m, hm⟩ := ih (a := a * 2) (by omega)
      exact ⟨m, by rw [hm, pow_succ', Nat.mul_assoc]⟩
    · exact ⟨_, magnitudeUnits_scaled ha.le (.inr hnormal)⟩

section Exact
variable {n d a e : Nat} (hd : 0 < d) (ha : a < 2 ^ 53) (he : e ≤ 1074) (h : n * 2 ^ e = a * d)
include hd ha h

theorem F64.isFinite_nearest_of_exact (neg : Bool) : F64.isFinite (F64.nearest neg n d) = true := by
  rw [F64.isFinite_nearest_iff neg n hd]
  calc n ≤ n * 2 ^ e := Nat.le_mul_of_pos_right n (by positivity)
    _ = a * d := h
    _ < 2 ^ 53 * d := Nat.mul_lt_mul_of_pos_right ha hd
    _ ≤ overflowBound * d := Nat.mul_le_mul_right d ?_
  calc 2 ^ 53 ≤ 2 ^ 54 - 1 := by decide
    _ ≤ overflowBound := Nat.le_mul_of_pos_right _ (by positivity)

include he

/-- `n / d`, which is `a` steps of `2 ^ -e`, is rounded to itself. -/
theorem F64.toRat_nearest_of_exact (neg : Bool) :
    F64.toRat (F64.nearest neg n d) = (withSign neg n : Rat) / d := by
  obtain ⟨m, hm⟩ := exists_magnitudeUnits_eq ha (1074 - e)
  have hunits : magnitudeUnits m * d = n * unitsPerOne := by
    rw [hm, unitsPerOne, ← Nat.add_sub_cancel' he, pow_add, ← Nat.mul_assoc, h, Nat.add_sub_cancel_left]
    exact Nat.mul_right_comm _ _ _
  have hfin := F64.isFinite_nearest_of_exact hd ha h neg
  have hzero : unitsError n d m = 0 := by rw [unitsError, hunits, sub_self, abs_zero]
  have herror : signedError neg n d (F64.nearest neg n d) = 0 := by
    rw [signedError_of_isNeg_eq (F64.isNeg_nearest neg n d), F64.magnitude_nearest_of_isFinite hfin]
    exact le_antisymm ((unboundedNearest_nearest n hd m).1.trans_eq hzero) (abs_nonneg _)
  rw [← sub_eq_zero, ← abs_eq_zero, abs_toRat_sub _ neg n hd, herror, Int.cast_zero, zero_div]

end Exact

theorem F64.isFinite_ofNat {n : Nat} (hn : n < 2 ^ 53) : F64.isFinite (F64.ofNat n) = true :=
  F64.isFinite_nearest_of_exact (e := 0) one_pos hn rfl false

theorem F64.toRat_ofNat {n : Nat} (hn : n < 2 ^ 53) : F64.toRat (F64.ofNat n) = n := by
  rw [F64.ofNat, F64.toRat_nearest_of_exact (e := 0) one_pos hn (by decide) rfl false, withSign, Nat.cast_one, div_one]
  rfl

@[simp] theorem F64.isNeg_ofNat (n : Nat) : F64.isNeg (F64.ofNat n) = false := F64.isNeg_nearest false n 1

/-- Two patterns of one sign and one value are the same. -/
theorem F64.eq_of_toRat_eq {x y : F64} (hsign : F64.isNeg x = F64.isNeg y) (h : F64.toRat x = F64.toRat y) : x = y := by
  rw [F64.toRat_eq_toRat_iff, F64.key, F64.key, hsign] at h
  have hmag : F64.magnitude x = F64.magnitude y := by split at h <;> omega
  rw [F64.isNeg, F64.isNeg, BitVec.msb_eq_decide, BitVec.msb_eq_decide, decide_eq_decide] at hsign
  rw [F64.magnitude, F64.magnitude] at hmag
  apply BitVec.eq_of_toNat_eq
  omega

/-- A value that is a binary64 number has one rounding of each sign. -/
theorem IsRounding.eq_of_exact {x y : F64} {q : Rat} (hx : IsRounding x q) (hy : IsRounding y q)
    (hfin : F64.isFinite y = true) (hexact : F64.toRat y = q) (hsign : F64.isNeg x = F64.isNeg y) : x = y := by
  obtain ⟨hxfin, hnearest, _⟩ := hx
  obtain ⟨hle, _⟩ := hnearest (hxfin.2 (hy.1.1 hfin)) y hfin
  rw [hexact, sub_self, abs_zero, abs_nonpos_iff, sub_eq_zero] at hle
  exact F64.eq_of_toRat_eq hsign (hle.trans hexact.symm)

theorem F64.isNeg_add_of_nonneg {x y : F64} (hx : F64.isFinite x = true) (hy : F64.isFinite y = true)
    (hx0 : F64.isNeg x = false) (hy0 : F64.isNeg y = false) : F64.isNeg (F64.add x y) = false := by
  have hsum : ¬ F64.sunits x + F64.sunits y < 0 := by
    rw [F64.sunits_eq_withSign, F64.sunits_eq_withSign, hx0, hy0]
    exact not_lt.2 (Int.natCast_nonneg (F64.units x + F64.units y))
  rw [F64.add_of_isFinite hx hy, F64.isNeg_nearest, hx0, hy0, decide_eq_false hsum, Bool.and_self, ite_self]

theorem F64.add_ofNat {m n : Nat} (h : m + n < 2 ^ 53) : F64.add (F64.ofNat m) (F64.ofNat n) = F64.ofNat (m + n) := by
  have hm := F64.isFinite_ofNat (n := m) (by omega)
  have hn := F64.isFinite_ofNat (n := n) (by omega)
  have hadd := isRounding_add hm hn
  rw [F64.toRat_ofNat (by omega), F64.toRat_ofNat (by omega)] at hadd
  have hsum : IsRounding (F64.ofNat (m + n)) ((m : Rat) + n) := by
    simpa [withSign, F64.ofNat] using isRounding_nearest false (m + n) one_pos
  refine IsRounding.eq_of_exact hadd hsum (F64.isFinite_ofNat h) ?_ ?_
  · rw [F64.toRat_ofNat h, Nat.cast_add]
  · rw [F64.isNeg_add_of_nonneg hm hn (F64.isNeg_ofNat m) (F64.isNeg_ofNat n), F64.isNeg_ofNat]

theorem F64.lt_iff_toRat_lt {x y : F64} (hx : F64.isFinite x = true) (hy : F64.isFinite y = true) :
    F64.lt x y = true ↔ F64.toRat x < F64.toRat y :=
  ((comparisonsFollowTheExactOrder x y).1 hx hy).1

end Sys2Proof.Machine
end

section
/-! SUPPORT. The statements of 41_sensor.md on the raw timestamp, the groups of a frame, the rollover corrector, and
the ledgers that record the sensor banks. -/

namespace Sys2Proof.Machine

open Sys2Proof.Claims

/-! ### The raw timestamp -/

theorem rawTime_config (cnt : BitVec 21) : rawTime config cnt = F64.nearest false (cnt.toNat * 10) (2 ^ 18) := by
  have hmod : cnt.toNat % 2 ^ config.sensorTsBits = cnt.toNat := Nat.mod_eq_of_lt cnt.isLt
  rw [rawTime, hmod]
  rfl

/-- Settles O24: the raw time is 5 cnt steps of 2^-17, which is fewer than 2^53. -/
theorem rawTimestampIsExact : Obligations.RawTimestampIsExact := by
  intro cnt
  have hlt := cnt.isLt
  have hsteps : cnt.toNat * 10 * 2 ^ 17 = cnt.toNat * 5 * 2 ^ 18 := by omega
  rw [rawTime_config]
  refine ⟨F64.isFinite_nearest_of_exact (by decide) (by omega) hsteps false, F64.isNeg_nearest _ _ _, ?_⟩
  rw [F64.toRat_nearest_of_exact (by decide) (by omega) (by decide) hsteps false, withSign]
  norm_num

theorem isFinite_rawTime (cnt : BitVec 21) : F64.isFinite (rawTime config cnt) = true := (rawTimestampIsExact cnt).1

theorem toRat_rawTime (cnt : BitVec 21) : F64.toRat (rawTime config cnt) = (cnt.toNat : Rat) * 10 / 262144 :=
  (rawTimestampIsExact cnt).2.2

theorem toRat_rawTime_lt_iff (cnt c : BitVec 21) :
    F64.toRat (rawTime config cnt) < F64.toRat (rawTime config c) ↔ cnt.toNat < c.toNat := by
  rw [toRat_rawTime, toRat_rawTime, div_lt_div_iff_of_pos_right (by norm_num), mul_lt_mul_iff_left₀ (by norm_num),
    Nat.cast_lt]

theorem lt_rawTime_iff (cnt c : BitVec 21) :
    F64.lt (rawTime config cnt) (rawTime config c) = true ↔ cnt.toNat < c.toNat := by
  rw [F64.lt_iff_toRat_lt (isFinite_rawTime cnt) (isFinite_rawTime c), toRat_rawTime_lt_iff]

/-- An 18-bit counter stays below the wrap period (41_sensor.md R142). -/
theorem toRat_rawTime_mem_Ico {c : BitVec 21} (hc : c.toNat < 2 ^ 18) :
    0 ≤ F64.toRat (rawTime config c) ∧ F64.toRat (rawTime config c) < 10 := by
  have hlt : (c.toNat : Rat) < 262144 := by exact_mod_cast hc
  rw [toRat_rawTime]
  exact ⟨by positivity, by linarith⟩

/-! ### The samples of a frame -/

/-- Puts samples one after another, all at the time `t` (41_sensor.md R139). -/
def putSamples (t : F64) (l : List (Nat × Word)) (s : State) : State :=
  l.foldl (fun s x => putSample x.1 x.2 t s) s

section PutSamples
variable (t : F64) (l : List (Nat × Word)) (s : State)

@[simp] theorem putSamples_nil : putSamples t [] s = s := rfl

@[simp] theorem putSamples_cons (x : Nat × Word) :
    putSamples t (x :: l) s = putSamples t l (putSample x.1 x.2 t s) := rfl

@[simp] theorem putSamples_rcLast : (putSamples t l s).rcLast = s.rcLast := by
  induction l generalizing s with
  | nil => rfl
  | cons x l ih => rw [putSamples_cons, ih, putSample_rcLast]

@[simp] theorem putSamples_result : (putSamples t l s).result = s.result := by
  induction l generalizing s with
  | nil => rfl
  | cons x l ih => rw [putSamples_cons, ih, putSample_result]

@[simp] theorem putSamples_rcAcc : (putSamples t l s).rcAcc = s.rcAcc := by
  induction l generalizing s with
  | nil => rfl
  | cons x l ih => rw [putSamples_cons, ih, putSample_rcAcc]

theorem valuesFor_cons (i : Nat) (x : Nat × Word) :
    valuesFor i (x :: l) = if x.1 = i then x.2 :: valuesFor i l else valuesFor i l := by
  by_cases h : x.1 = i <;> simp [valuesFor, h]

variable (i : Fin nSensor)

theorem putSamples_sledger :
    (putSamples t l s).sledger[i] = s.sledger[i] ++ (valuesFor i l).map (SensorRecord.mk t) := by
  induction l generalizing s with
  | nil => simp [valuesFor]
  | cons x l ih =>
    rw [putSamples_cons, ih, putSample_sledger, valuesFor_cons, Fin.getElem_fin, Fin.getElem_fin, getElem_modifyAt]
    split_ifs <;> simp

theorem putSamples_sval : (putSamples t l s).sval[i] = (valuesFor i l).getLast?.getD s.sval[i] := by
  induction l generalizing s with
  | nil => simp [valuesFor]
  | cons x l ih =>
    rw [putSamples_cons, ih, putSample_sval, valuesFor_cons, Fin.getElem_fin, Fin.getElem_fin, getElem_modifyAt]
    split_ifs
    · rw [List.getLast?_cons, Option.getD_some]
    · rfl

theorem putSamples_stime : (putSamples t l s).stime[i] = if valuesFor i l = [] then s.stime[i] else t := by
  induction l generalizing s with
  | nil => simp [valuesFor]
  | cons x l ih =>
    rw [putSamples_cons, ih, putSample_stime, valuesFor_cons, Fin.getElem_fin, Fin.getElem_fin, getElem_modifyAt]
    split_ifs <;> simp_all

end PutSamples

theorem subAddressAt_eq (p : List Byte) (off : Nat) : subAddressAt p off = byteAt p off := by
  rw [subAddressAt, memRead, byteAt, List.take_one, List.head?_drop, List.getD_eq_getElem?_getD]
  cases p[off]? <;> simp [be]

theorem byteAt_eq {p : List Byte} {k : Nat} (h : k < p.length) : byteAt p k = p[k].toNat := by
  rw [byteAt, List.getD_eq_getElem _ _ h]

/-- Both bytes of a value have to be there: of one byte alone `be` makes a number below 256 (41_sensor.md R135). -/
theorem sensorValueAt_eq {p : List Byte} {off : Nat} (h : off + 2 ≤ p.length) :
    sensorValueAt p off = BitVec.ofNat 32 (be16 p off) := by
  have hread : memRead p off 2 = [p[off], p[off + 1]] := by
    rw [memRead, List.drop_eq_getElem_cons (by omega), List.drop_eq_getElem_cons (by omega)]
    rfl
  have hbe : be (memRead p off 2) = be16 p off := by
    rw [hread, be16, byteAt_eq (by omega), byteAt_eq (by omega)]
    simp only [be, List.foldl_cons, List.foldl_nil]
    omega
  have hlt : be16 p off < 2 ^ 16 := by
    have hfirst := p[off].isLt
    have hsecond := p[off + 1].isLt
    rw [be16, byteAt_eq (by omega), byteAt_eq (by omega)]
    omega
  rw [sensorValueAt, be16At, hbe, BitVec.zeroExtend_eq_setWidth, BitVec.setWidth_ofNat_of_le_of_lt (by decide) hlt]

theorem putSamples_append (t : F64) (l l' : List (Nat × Word)) (s : State) :
    putSamples t (l ++ l') s = putSamples t l' (putSamples t l s) := List.foldl_append

/-- A group after the first finds the frame's raw time in RC_LAST, so it only puts its sample (41_sensor.md R139). -/
theorem laterGroup_eq {p : List Byte} {sub off : Nat} (hoff : off + 2 ≤ p.length) {raw : F64} {s : State}
    (hraw : s.rcLast = raw) :
    group config (subAddressAt p sub) (sensorValueAt p off) raw s =
      putSamples (storedTime config raw s.rcAcc) [(byteAt p sub, BitVec.ofNat 32 (be16 p off))] s := by
  rw [group_of_rcLast s config _ _ raw hraw, subAddressAt_eq, sensorValueAt_eq hoff]
  rfl

theorem sensorGroup2_eq (p : List Byte) {raw : F64} {s : State} (hraw : s.rcLast = raw) :
    sensorGroup2 config p raw s = putSamples (storedTime config raw s.rcAcc)
      (if 4 < p.length then [(byteAt p 2, BitVec.ofNat 32 (be16 p 3))] else []) s := by
  rw [sensorGroup2]
  split_ifs
  · exact laterGroup_eq (by omega) hraw
  · rfl

theorem sensorGroup3_eq (p : List Byte) {raw : F64} {s : State} (hraw : s.rcLast = raw) :
    sensorGroup3 config p raw s = putSamples (storedTime config raw s.rcAcc)
      (if 7 < p.length then [(byteAt p 5, BitVec.ofNat 32 (be16 p 6))] else []) s := by
  rw [sensorGroup3]
  split_ifs
  · exact laterGroup_eq (by omega) hraw
  · rfl

/-- The first group moves the corrector, then all groups put their samples at one time (41_sensor.md R136, R139). -/
theorem sensorGroups_eq (a : Addr) {p : List Byte} (hp : 2 ≤ p.length) (raw : F64) (s : State) :
    sensorGroups config a p raw s =
      putSamples (storedTime config raw (rolloverAcc config raw s.rcLast s.rcAcc)) (samples a p)
        (putRollover raw (rolloverAcc config raw s.rcLast s.rcAcc) s) := by
  have hfirst : group config a.toNat (sensorValueAt p 0) raw s =
      putSamples (storedTime config raw (rolloverAcc config raw s.rcLast s.rcAcc))
        [(a.toNat, BitVec.ofNat 32 (be16 p 0))] (putRollover raw (rolloverAcc config raw s.rcLast s.rcAcc) s) := by
    rw [sensorValueAt_eq hp]
    rfl
  rw [sensorGroups, hfirst, sensorGroup2_eq p (by simp), sensorGroup3_eq p (by simp), samples, putSamples_append,
    putSamples_append]
  simp only [putSamples_rcAcc, putRollover_rcAcc]

/-! ### The whole frame -/

/-- RC_ACC after a frame with this counter (41_sensor.md R136). -/
def accAfter (cnt : BitVec 21) (s : State) : F64 := rolloverAcc config (rawTime config cnt) s.rcLast s.rcAcc

/-- The state after a SENSOR frame of at least two bytes (41_sensor.md R130). -/
def sensorNext (a : Addr) (cnt : BitVec 21) (p : List Byte) (s : State) : State :=
  countFrame (putSamples (storedTime config (rawTime config cnt) (accAfter cnt s)) (samples a p)
    (putRollover (rawTime config cnt) (accAfter cnt s) (beginStep s)))

section SensorNext
variable (a : Addr) (cnt : BitVec 21) (p : List Byte) (s : State)

theorem exec_sensor_of_length_lt {p : List Byte} (hp : p.length < 2) :
    exec (.sensor a cnt p) s = .next (counted .short s) :=
  exec_eq_counted (fun s => by rw [workOf, sensor, if_pos hp]) s

theorem exec_sensor_of_le_length {p : List Byte} (hp : 2 ≤ p.length) :
    exec (.sensor a cnt p) s = .next (sensorNext a cnt p s) := by
  rw [exec_eq, workOf, sensor, if_neg (by omega), sensorGroups_eq a hp, beginStep_rcLast, beginStep_rcAcc]
  rfl

@[simp] theorem sensorNext_rcLast : (sensorNext a cnt p s).rcLast = rawTime config cnt := by simp [sensorNext]

@[simp] theorem sensorNext_rcAcc : (sensorNext a cnt p s).rcAcc = accAfter cnt s := by simp [sensorNext]

@[simp] theorem sensorNext_result : (sensorNext a cnt p s).result = .done := by simp [sensorNext]

variable (i : Fin nSensor)

theorem sensorNext_sledger : (sensorNext a cnt p s).sledger[i] = s.sledger[i] ++
    (valuesFor i (samples a p)).map (SensorRecord.mk (storedTime config (rawTime config cnt) (accAfter cnt s))) := by
  rw [sensorNext, countFrame_sledger, putSamples_sledger, putRollover_sledger, beginStep_sledger]

theorem sensorNext_sval :
    (sensorNext a cnt p s).sval[i] = (valuesFor i (samples a p)).getLast?.getD s.sval[i] := by
  rw [sensorNext, countFrame_sval, putSamples_sval, putRollover_sval, beginStep_sval]

theorem sensorNext_stime : (sensorNext a cnt p s).stime[i] =
    if valuesFor i (samples a p) = [] then s.stime[i]
    else storedTime config (rawTime config cnt) (accAfter cnt s) := by
  rw [sensorNext, countFrame_stime, putSamples_stime, putRollover_stime, beginStep_stime]

end SensorNext

theorem kept_of_exec {i : Instr} {s t : State} (hi : i.wellFormed = true) (h : exec i s = .next t) :
    Kept (writeSet i.frameClass) s t := by
  refine ⟨writeSetsAreRespected i s t hi h, ?_⟩
  rw [(exec_next_iff i s t).1 h, countFrame_frameCount, workOf_frameCount, beginStep_frameCount]

/-- Settles O23: the groups of a frame put its samples one after another, all at the time after the one move of the
corrector. -/
theorem sensorFrameDecodesItsGroups : Obligations.SensorFrameDecodesItsGroups := by
  intro a cnt p s hi
  refine ⟨exec_sensor_of_length_lt a cnt s, fun hp => ?_⟩
  have hexec := exec_sensor_of_le_length a cnt s hp
  refine ⟨_, hexec, sensorNext_result a cnt p s, ?_, ?_, fun i => ?_, kept_of_exec hi hexec⟩
  all_goals rw [sensorNext_rcLast]
  · exact rawTime_config cnt
  · exact sensorNext_rcAcc a cnt p s
  · rw [sensorNext_rcAcc]
    exact ⟨sensorNext_sledger a cnt p s i, sensorNext_sval a cnt p s i, sensorNext_stime a cnt p s i⟩

/-! ### The rollover corrector -/

theorem accAfter_of_rcLast {s : State} {c : BitVec 21} (hlast : s.rcLast = rawTime config c) (cnt : BitVec 21) :
    accAfter cnt s = if cnt.toNat < c.toNat then F64.add s.rcAcc (F64.ofNat 10) else s.rcAcc := by
  rw [accAfter, rolloverAcc, hlast]
  simp only [lt_rawTime_iff]
  rfl

/-- Settles O25: raw times are exact, so they are compared as their counters are. -/
theorem wrapIsACounterThatFell : Obligations.WrapIsACounterThatFell := by
  intro a c cnt p s _ hp hlast
  refine ⟨_, exec_sensor_of_le_length a cnt s hp, sensorNext_rcLast a cnt p s, ?_⟩
  rw [sensorNext_rcAcc, accAfter_of_rcLast hlast]

theorem toRat_wrapPeriods {k : Nat} (hk : k ≤ 2 ^ 32) : F64.toRat (F64.ofNat (config.wrapPeriod * k)) = 10 * k := by
  have h10 : config.wrapPeriod = 10 := rfl
  rw [h10, F64.toRat_ofNat (by omega), Nat.cast_mul, Nat.cast_ofNat]

theorem add_wrapPeriod {k : Nat} (hk : k < 2 ^ 32) :
    F64.add (F64.ofNat (config.wrapPeriod * k)) (F64.ofNat 10) = F64.ofNat (config.wrapPeriod * (k + 1)) := by
  have h10 : config.wrapPeriod = 10 := rfl
  rw [h10, F64.add_ofNat (by omega), Nat.mul_succ]

/-- What a step without a reset makes of the rollover registers: as many wrap periods as before, or one more when the
raw time fell, and a corrected time that is no lower (41_sensor.md R142). -/
def AdvancesRollover (k : Nat) (s t : State) : Prop :=
  RolloverAt (if F64.toRat t.rcLast < F64.toRat s.rcLast then k + 1 else k) t ∧ correctedTime s ≤ correctedTime t ∧
  F64.toRat t.rcAcc = F64.toRat s.rcAcc + (if F64.toRat t.rcLast < F64.toRat s.rcLast then 10 else 0)

theorem AdvancesRollover.of_unchanged {k : Nat} {s t : State} (hs : RolloverAt k s) (h : Unchanged .rolloverClock s t) :
    AdvancesRollover k s t := by
  obtain ⟨hlast, hacc⟩ := h
  simpa [AdvancesRollover, RolloverAt, correctedTime, hlast, hacc] using hs

/-- Both raw times are below a period, so the period more outweighs the fall. -/
theorem sensorNext_advancesRollover {k : Nat} (hk : k < 2 ^ 32) {cnt : BitVec 21} (hcnt : cnt.toNat < 2 ^ 18)
    {s : State} (hs : RolloverAt k s) (a : Addr) (p : List Byte) : AdvancesRollover k s (sensorNext a cnt p s) := by
  obtain ⟨c, hc, hlast, hacc⟩ := hs
  have hafter := accAfter_of_rcLast hlast cnt
  rw [AdvancesRollover, correctedTime, correctedTime, sensorNext_rcLast, sensorNext_rcAcc, hafter, hlast, hacc,
    add_wrapPeriod hk]
  simp only [toRat_rawTime_lt_iff]
  split_ifs with hfell
  · obtain ⟨hraw, _⟩ := toRat_rawTime_mem_Ico hcnt
    obtain ⟨_, hlt⟩ := toRat_rawTime_mem_Ico hc
    rw [toRat_wrapPeriods hk.le, toRat_wrapPeriods hk]
    push_cast
    refine ⟨⟨cnt, hcnt, sensorNext_rcLast a cnt p s, ?_⟩, by linarith, by ring⟩
    rw [sensorNext_rcAcc, hafter, if_pos hfell, hacc, add_wrapPeriod hk]
  · have hle := not_lt.1 (mt (toRat_rawTime_lt_iff cnt c).1 hfell)
    refine ⟨⟨cnt, hcnt, sensorNext_rcLast a cnt p s, ?_⟩, by linarith, (add_zero _).symm⟩
    rw [sensorNext_rcAcc, hafter, if_neg hfell, hacc]

/-- Settles O26: a sum of wrap periods is exact below 2^53. -/
theorem sensorFrameKeepsCorrectedTime : Obligations.SensorFrameKeepsCorrectedTime := by
  intro a cnt p s k _ hp hcnt hk hs
  obtain ⟨hroll, hcorrected, hacc⟩ := sensorNext_advancesRollover hk hcnt hs a p
  exact ⟨_, exec_sensor_of_le_length a cnt s hp, hcorrected, hroll, hacc⟩

theorem exec_sensor_advancesRollover {k : Nat} (hk : k < 2 ^ 32) {cnt : BitVec 21} (hcnt : cnt.toNat < 2 ^ 18)
    {s t : State} (hs : RolloverAt k s) {a : Addr} {p : List Byte} (h : exec (.sensor a cnt p) s = .next t) :
    AdvancesRollover k s t := by
  rcases Nat.lt_or_ge p.length 2 with hp | hp
  · obtain rfl : counted .short s = t := by simpa [exec_sensor_of_length_lt a cnt s hp] using h
    exact .of_unchanged hs ⟨rfl, rfl⟩
  · obtain rfl : sensorNext a cnt p s = t := by simpa [exec_sensor_of_le_length a cnt s hp] using h
    exact sensorNext_advancesRollover hk hcnt hs a p

/-- SENSOR moves the rollover clock, and no other class has it in its write set (10_state.md R46). -/
theorem exec_advancesRollover {k : Nat} (hk : k < 2 ^ 32) {i : Instr} (hi : i.wellFormed = true)
    (hcounter : ∀ a cnt p, i = .sensor a cnt p → cnt.toNat < 2 ^ 18) {s t : State} (hs : RolloverAt k s)
    (h : exec i s = .next t) : AdvancesRollover k s t := by
  cases i with
  | sensor a cnt p => exact exec_sensor_advancesRollover hk (hcounter a cnt p rfl) hs h
  | _ => exact .of_unchanged hs ((exec_updates hi h).unchanged (by simp [Instr.frameClass, writeSet]))

theorem cnt_of_decode_sensor {f : RawFrame} {a : Addr} {cnt : BitVec 21} {p : List Byte}
    (h : decode f = .ok (.sensor a cnt p)) :
    classOf config (addrOf f.identifier) = .sensor ∧ cnt = cntOf f.identifier := by
  have hclass := (frameClass_of_decode h).symm
  obtain ⟨_, hinstr⟩ := (decode_eq_ok_iff f _).1 h
  rw [hclass] at hinstr
  injection hinstr with _ hcnt _
  exact ⟨hclass, hcnt⟩

theorem AdvancesRollover.exists_periods {k : Nat} {s t : State} (h : AdvancesRollover k s t) :
    ∃ k', k' ≤ k + 1 ∧ RolloverAt k' t ∧ k ≤ k' ∧ correctedTime s ≤ correctedTime t ∧
      (k' = k + 1 ↔ F64.toRat t.rcLast < F64.toRat s.rcLast) := by
  obtain ⟨hroll, hcorrected, _⟩ := h
  refine ⟨_, ?_, hroll, ?_, hcorrected, ?_⟩
  all_goals split_ifs with hfell
  all_goals simp [hfell]

/-- A step that is not the host's reset waits, or runs a frame whose counter the premise bounds. -/
theorem step_advancesRollover {s t : State} {k : Nat} (hs : RolloverAt k s) (hk : k < 2 ^ 32)
    (hcounter : NextCounterBelow18Bits s) (h : step s = .next t) (hop : ∀ rest, s.inbox ≠ .reset :: rest) :
    AdvancesRollover k s t := by
  obtain ⟨_, rfl⟩ | ⟨f, rest, i, hin, hdecode, hexec⟩ | ⟨rest, hin, _⟩ := step_next_cases h
  · exact .of_unchanged hs (unchanged_self _ _)
  · refine exec_advancesRollover (s := { s with inbox := rest }) hk (wellFormed_of_decode hdecode) ?_ hs hexec
    rintro a cnt p rfl
    obtain ⟨hclass, rfl⟩ := cnt_of_decode_sensor hdecode
    exact hcounter f rest hin hclass
  · exact absurd hin (hop rest)

theorem step_of_reset {s : State} {rest : List HostOp} (hin : s.inbox = .reset :: rest) :
    step s = .next { State.reset with inbox := rest } := by
  simp only [step, hin, perform, resetSession_eq]

/-- Settles O27: a reset starts again at no period, every other step advances the rollover registers. -/
theorem correctedTimeNeverDecreases : Obligations.CorrectedTimeNeverDecreases := by
  intro s t k hs hk hcounter h
  by_cases hreset : ∃ rest, s.inbox = .reset :: rest
  · obtain ⟨rest, hin⟩ := hreset
    refine ⟨0, Nat.zero_le _, ?_, fun hop => absurd hin (hop rest)⟩
    rw [step_of_reset hin] at h
    injection h with h
    subst h
    exact rolloverAt_reset
  · obtain ⟨k', hle, hroll, hadvance⟩ :=
      (step_advancesRollover hs hk hcounter h (not_exists.1 hreset)).exists_periods
    exact ⟨k', hle, hroll, fun _ => hadvance⟩

/-! ### The ledgers and the banks -/

theorem LedgersMatchBanks.of_unchanged {s t : State} (hs : LedgersMatchBanks s) (h : Unchanged .sensorBanks s t) :
    LedgersMatchBanks t := by
  obtain ⟨hsval, hstime, hsledger⟩ := h
  simpa only [LedgersMatchBanks, hsval, hstime, hsledger] using hs

/-- A group appends the record whose value and time it writes to the banks (41_sensor.md R138). -/
theorem LedgersMatchBanks.group {s : State} (hs : LedgersMatchBanks s) (cfg : Config) (sid : Nat) (v : Word)
    (raw : F64) : LedgersMatchBanks (group cfg sid v raw s) := by
  intro i
  have hi := hs i
  simp only [group_sval, group_stime, group_sledger, Fin.getElem_fin, getElem_modifyAt] at *
  split_ifs
  · simp
  · exact hi

theorem LedgersMatchBanks.update {l : List Component} {s t : State} (h : Update l s t) (hs : LedgersMatchBanks s) :
    LedgersMatchBanks t := by
  obtain hsame | ⟨sid, v, cnt, _, _, rfl⟩ := h.sensorBanks
  · exact hs.of_unchanged hsame
  · exact hs.group config sid v _

/-- Settles O49: only a group writes the sensor banks or ledgers, and it writes them together. -/
theorem stepKeepsLedgersMatchingBanks : Obligations.StepKeepsLedgersMatchingBanks :=
  fun _ _ => step_keeps ledgersMatchBanks_reset LedgersMatchBanks.update

end Sys2Proof.Machine
end

section
/-! SUPPORT. The statements of 42_valve.md: bit reversal, and what a valve frame leaves at each index of its bank, said
once for the three decoders, which differ only in a computed channel 1 of zero. -/

namespace Sys2Proof.Machine

open Sys2Proof.Claims

/-! ### Bit reversal -/

theorem getLsbD_rev8 (v : Byte) {i : Nat} (hi : i < 8) : (rev8 v).getLsbD i = v.getLsbD (7 - i) := by
  rw [rev8, BitVec.getLsbD_reverse, BitVec.getMsbD, decide_eq_true hi, Bool.true_and]

/-- Settles O28: the two ends trade places, twice is back; the listed values by evaluation. -/
theorem bitReversalSwapsTheEnds : Obligations.BitReversalSwapsTheEnds :=
  ⟨fun v _ hi => getLsbD_rev8 v hi, fun _ => BitVec.reverse_reverse_eq, by decide⟩

/-! ### The channels of a valve frame -/

/-- The claims' name for the bank of a decoder, and the proofs' one. -/
theorem bankOf_eq_channels (b : ValveBank) (s : State) : bankOf b s = b.channels s := by
  cases b <;> rfl

section ValveChannels

variable (b : ValveBank) (f1 f2 : Byte) (p : List Byte) (s : State)

theorem valveChannel1_channels :
    b.channels (valveChannel1 b f1 s) =
      if keepsZero b = true ∧ rev8 f1 = 0 then b.channels s else modifyAt (b.channels s) 1 fun _ => rev8 f1 := by
  simp only [valveChannel1, Bool.and_eq_true, beq_iff_eq]
  split_ifs
  · rfl
  · exact putValve_channels b 1 _ s

theorem valveBytes_channels_getElem (j : Nat) {k : Nat} (hk : k < nValve) :
    (b.channels (valveBytes b j p s))[k] =
      if h : j ≤ k ∧ k - j < p.length then p[k - j] else (b.channels s)[k] := by
  cases b with
  | eng => exact valveBytes_eng_getElem s j p k hk
  | pri => exact valveBytes_pri_getElem s j p k hk
  | prop => exact valveBytes_prop_getElem s j p k hk

/-- From index 3 on the payload bytes, as far as they go (42_valve.md R156); below, channels 1 and 2. -/
theorem valve_channels_getElem {k : Nat} (hk : k < nValve) :
    (b.channels (valve b f1 f2 p s))[k] =
      if h : 3 ≤ k ∧ k - 3 < p.length then p[k - 3]
      else if 2 = k then rev8 f2
      else (b.channels (valveChannel1 b f1 s))[k] := by
  simp only [valve, raiseIfShort_channels, valveBytes_channels_getElem, putValve_channels, getElem_modifyAt]

theorem valveChannel1_channels_getElem_ne {k : Nat} (hk : k < nValve) (hne : 1 ≠ k) :
    (b.channels (valveChannel1 b f1 s))[k] = (b.channels s)[k] := by
  rw [valveChannel1_channels]
  split_ifs
  · rfl
  · exact getElem_modifyAt_ne _ _ _ _ hk hne

/-- Channel 1 is stored, except that a decoder that keeps zeros out leaves it when it is zero (42_valve.md R154). -/
theorem valve_channelOne :
    (b.channels (valve b f1 f2 p s))[1] =
      if keepsZero b = true ∧ rev8 f1 = 0 then (b.channels s)[1] else rev8 f1 := by
  rw [valve_channels_getElem, dif_neg (by omega), if_neg (by omega), valveChannel1_channels]
  split_ifs
  · rfl
  · exact getElem_modifyAt_self _ _ _ _

theorem valveBankAfter_valve : ValveBankAfter b f2 p s (valve b f1 f2 p s) := by
  simp only [ValveBankAfter, bankOf_eq_channels, valve_channels_getElem]
  refine ⟨rfl, fun i hi _ => ?payload, fun j hj hother => ?other⟩
  case payload =>
    rw [dif_pos (by omega)]
    simp only [Nat.add_sub_cancel_left]
  case other =>
    rw [dif_neg (by omega), if_neg (by omega), valveChannel1_channels_getElem_ne b f1 s hj (by omega)]

end ValveChannels

/-! ### Valve instructions -/

theorem raiseIfShort_result_of_done {s : State} (h : s.result = .done) (p : List Byte) :
    (raiseIfShort p s).result = shortBelow8 p := by
  unfold raiseIfShort shortBelow8
  split_ifs
  · rw [raise_result, h, join_done]
  · exact h

/-- The instruction of a valve decoder (42_valve.md R150). -/
def ValveBank.instr : ValveBank → Byte → Byte → List Byte → Instr
  | .eng => .valveEng
  | .pri => .valvePri
  | .prop => .valveProp

section ValveInstr

variable (b : ValveBank) (f1 f2 : Byte) (p : List Byte) (s : State)

/-- The state after a valve instruction. -/
def valveNext : State := countFrame (valve b f1 f2 p (beginStep s))

theorem exec_valve : exec (b.instr f1 f2 p) s = .next (valveNext b f1 f2 p s) := by
  cases b <;> exact exec_eq _ s

theorem writeSet_valve : writeSet (b.instr f1 f2 p).frameClass = [b.component] := by
  cases b <;> rfl

/-- The ends of a step leave the bank to the decoder. -/
theorem valveNext_channels :
    b.channels (valveNext b f1 f2 p s) = b.channels (valve b f1 f2 p (beginStep s)) := by
  cases b <;> rfl

theorem beginStep_channels : b.channels (beginStep s) = b.channels s := by
  cases b <;> rfl

theorem valveNext_channelOne_of_storesZero (hb : keepsZero b = false) :
    (b.channels (valveNext b f1 f2 p s))[1] = rev8 f1 := by
  simp [valveNext_channels, valve_channelOne, hb]

theorem valveNext_channelOne_of_keepsZero (hb : keepsZero b = true) :
    (b.channels (valveNext b f1 f2 p s))[1] = if rev8 f1 = 0 then (b.channels s)[1] else rev8 f1 := by
  simp only [valveNext_channels, valve_channelOne, beginStep_channels, hb, true_and]

theorem valveBankAfter_valveNext : ValveBankAfter b f2 p s (valveNext b f1 f2 p s) := by
  have hafter := valveBankAfter_valve b f1 f2 p (beginStep s)
  simpa only [ValveBankAfter, bankOf_eq_channels, valveNext_channels, beginStep_channels] using hafter

theorem valveNext_result : (valveNext b f1 f2 p s).result = shortBelow8 p := by
  rw [valveNext, countFrame_result, valve]
  exact raiseIfShort_result_of_done (by simp) p

/-- What the three decoders do alike (42_valve.md R155, R156, R160). -/
theorem valveNext_spec (hi : (b.instr f1 f2 p).wellFormed = true) :
    ValveBankAfter b f2 p s (valveNext b f1 f2 p s) ∧ (valveNext b f1 f2 p s).result = shortBelow8 p ∧
      Kept [b.component] s (valveNext b f1 f2 p s) := by
  have hkept := kept_of_exec hi (exec_valve b f1 f2 p s)
  rw [writeSet_valve] at hkept
  exact ⟨valveBankAfter_valveNext b f1 f2 p s, valveNext_result b f1 f2 p s, hkept⟩

end ValveInstr

/-- Settles O29: the engine decoder stores a zero too. -/
theorem valveEngFrameWritesItsBank : Obligations.ValveEngFrameWritesItsBank :=
  fun f1 f2 p s hi => ⟨_, exec_valve .eng f1 f2 p s, valveNext_channelOne_of_storesZero .eng f1 f2 p s rfl,
    valveNext_spec .eng f1 f2 p s hi⟩

/-- Settles O30: the primary decoder keeps a zero out of channel 1. -/
theorem valvePriFrameWritesItsBank : Obligations.ValvePriFrameWritesItsBank :=
  fun f1 f2 p s hi => ⟨_, exec_valve .pri f1 f2 p s, valveNext_channelOne_of_keepsZero .pri f1 f2 p s rfl,
    valveNext_spec .pri f1 f2 p s hi⟩

/-- Settles O31: the prop decoder keeps a zero out of channel 1. -/
theorem valvePropFrameWritesItsBank : Obligations.ValvePropFrameWritesItsBank :=
  fun f1 f2 p s hi => ⟨_, exec_valve .prop f1 f2 p s, valveNext_channelOne_of_keepsZero .prop f1 f2 p s rfl,
    valveNext_spec .prop f1 f2 p s hi⟩

/-- Settles O32: one rule for channel 1, read at each decoder's answer to a zero. -/
theorem channelOneZeroAsymmetry : Obligations.ChannelOneZeroAsymmetry := by
  intro f1 f2 p s _
  have heng := valveNext_channelOne_of_storesZero .eng f1 f2 p s rfl
  have hpri := valveNext_channelOne_of_keepsZero .pri f1 f2 p s rfl
  have hprop := valveNext_channelOne_of_keepsZero .prop f1 f2 p s rfl
  exact ⟨_, _, _, exec_valve .eng f1 f2 p s, exec_valve .pri f1 f2 p s, exec_valve .prop f1 f2 p s, heng,
    fun hzero => ⟨hpri.trans (if_pos hzero), hprop.trans (if_pos hzero)⟩,
    fun hne => ⟨hpri.trans (if_neg hne), hprop.trans (if_neg hne)⟩⟩

end Sys2Proof.Machine
end

section
/-! SUPPORT. The statements of 43_node_state.md: the three node instructions are the update of their node, and what
that update does with an empty payload, a legal index and an index that names no member. -/

namespace Sys2Proof.Machine

open Sys2Proof.Claims

/-! ### Members of legal index -/

theorem exists_vehicleState_eq_some {k : Nat} (h : k ≤ 12) : ∃ v, vehicleState k = some v ∧ vehicleIndex v = k := by
  interval_cases k <;> exact ⟨_, rfl, rfl⟩

/-! ### The update of a node -/

section NodeUpdate

variable (n : Nat) {b : Byte} (p : List Byte) (s : State)

theorem nodeUpdate_nil : nodeUpdate n [] s = raise .short s := rfl

theorem nodeUpdate_of_member {v : VehicleState} (hv : vehicleState b.toNat = some v) :
    nodeUpdate n (b :: p) s = putNode n v s := by
  simp only [nodeUpdate, hv]

theorem nodeUpdate_of_outOfRange (hb : 12 < b.toNat) : nodeUpdate n (b :: p) s = raise (.badEnum b) s := by
  simp only [nodeUpdate, vehicleState_eq_none_of_lt hb]

end NodeUpdate

/-! ### Node instructions -/

/-- The address of a node instruction names its node, and its cascade adds nothing (43_node_state.md R170, R171). -/
theorem workOf_nodeInstr (n : Fin 3) (p : List Byte) (s : State) : workOf (nodeInstr n p) s = nodeUpdate n p s := by
  match n with
  | 0 | 1 | 2 => exact nodeThenCascade_of_nodeAddr s (by decide) p

theorem writeSet_nodeInstr (n : Fin 3) (p : List Byte) :
    writeSet (nodeInstr n p).frameClass = [Claims.nodeComponent n] := by
  match n with
  | 0 | 1 | 2 => rfl

theorem exec_nodeInstr_of_member (n : Fin 3) {b : Byte} {v : VehicleState} (hv : vehicleState b.toNat = some v)
    (p : List Byte) (s : State) :
    exec (nodeInstr n (b :: p)) s = .next (countFrame (putNode n v (beginStep s))) := by
  rw [exec_eq, workOf_nodeInstr, nodeUpdate_of_member n p _ hv]

/-- Settles O34: a legal index names a member, which the update puts; the rest is the frame of the class. -/
theorem nodeReportSetsItsNode : Obligations.NodeReportSetsItsNode := by
  intro n b p s hi hb
  obtain ⟨v, hv, hindex⟩ := exists_vehicleState_eq_some hb
  have hexec := exec_nodeInstr_of_member n hv p s
  have hkept := kept_of_exec hi hexec
  rw [writeSet_nodeInstr] at hkept
  refine ⟨_, hexec, ?node, ?result, hkept⟩
  case node => simp [hindex]
  case result => rw [countFrame_result, putNode_result, beginStep_result]

/-- Settles O35: an index above 12 names no member, so the work only raises BADENUM. -/
theorem nodeReportOutOfRangeKeepsState : Obligations.NodeReportOutOfRangeKeepsState := by
  intro n b p s _ hb
  refine exec_eq_counted (fun u => ?_) s
  rw [workOf_nodeInstr, nodeUpdate_of_outOfRange n p u hb]

/-- Settles O36: without byte 0 the work only raises SHORT. -/
theorem emptyNodeReportIsShort : Obligations.EmptyNodeReportIsShort := by
  intro n s
  refine exec_eq_counted (fun u => ?_) s
  rw [workOf_nodeInstr, nodeUpdate_nil]

end Sys2Proof.Machine
end

section
/-! SUPPORT. The integers that a payload's bytes make, most significant byte first (00_scope.md R14): the fields of a
frame as numbers, and the two's complement reading of a whole payload. -/

namespace Sys2Proof.Machine

open Sys2Proof.Claims

/-! ### Bytes, most significant first -/

theorem be_append_singleton (l : List Byte) (b : Byte) : be (l ++ [b]) = be l * 256 + b.toNat := by
  rw [be, List.foldl_append]
  rfl

theorem be_cons (b : Byte) (l : List Byte) : be (b :: l) = b.toNat * 256 ^ l.length + be l := by
  induction l using List.reverseRecOn with
  | nil => simp [be]
  | append_singleton l c ih =>
    rw [← List.cons_append, be_append_singleton, be_append_singleton, ih, List.length_append, List.length_singleton]
    ring

theorem be_lt (l : List Byte) : be l < 256 ^ l.length := by
  induction l using List.reverseRecOn with
  | nil => decide
  | append_singleton l b ih =>
    have hb := b.isLt
    rw [be_append_singleton, List.length_append, List.length_singleton, pow_succ]
    omega

/-! ### Fields of a payload -/

/-- Bytes that are there are read as the claims read them, one at a time. -/
theorem be_memRead {p : List Byte} {off n : Nat} (h : off + n ≤ p.length) :
    be (memRead p off n) = (List.range n).foldl (fun acc k => 256 * acc + byteAt p (off + k)) 0 := by
  induction n with
  | zero => rfl
  | succ n ih =>
    have hread : memRead p off (n + 1) = memRead p off n ++ [p[off + n]] := by
      rw [memRead, List.take_add_one, List.getElem?_drop, List.getElem?_eq_getElem (by omega)]
      rfl
    rw [hread, be_append_singleton, ih (by omega), ← byteAt_eq, List.range_succ, List.foldl_append, Nat.mul_comm]
    rfl

theorem be_memRead_two {p : List Byte} {off : Nat} (h : off + 2 ≤ p.length) : be (memRead p off 2) = be16 p off := by
  rw [be_memRead h]
  simp [List.range_succ, be16]

theorem be_memRead_four {p : List Byte} {off : Nat} (h : off + 4 ≤ p.length) : be (memRead p off 4) = be32 p off := by
  rw [be_memRead h]
  simp only [List.range_succ, List.range_zero, List.nil_append, List.cons_append, List.foldl_cons, List.foldl_nil,
    Nat.add_zero, Nat.add_assoc, Nat.reduceAdd, be32, be16]
  omega

theorem be_eq_foldl (p : List Byte) :
    be p = (List.range p.length).foldl (fun acc k => 256 * acc + byteAt p k) 0 := by
  simpa [memRead] using be_memRead (p := p) (off := 0) (n := p.length) (by omega)

theorem be16_lt (p : List Byte) (off : Nat) : be16 p off < 65536 := by
  have hfirst := (p.getD off 0).isLt
  have hsecond := (p.getD (off + 1) 0).isLt
  simp only [be16, byteAt]
  omega

theorem be16At_eq {p : List Byte} {off : Nat} (h : off + 2 ≤ p.length) :
    be16At p off = BitVec.ofNat 16 (be16 p off) := by
  rw [be16At, be_memRead_two h]

theorem be16At_eq_zero_iff {p : List Byte} {off : Nat} (h : off + 2 ≤ p.length) :
    be16At p off = 0 ↔ be16 p off = 0 := by
  have hlt := be16_lt p off
  rw [be16At_eq h, ← BitVec.toNat_inj, BitVec.toNat_ofNat, Nat.mod_eq_of_lt hlt]
  rfl

theorem ctrlOrder_config (bs : List Byte) : ctrlOrder config bs = be bs := rfl

theorem ctrlWordAt_eq {p : List Byte} {off : Nat} (h : off + 4 ≤ p.length) :
    ctrlWordAt config p off = BitVec.ofNat 32 (be32 p off) := by
  rw [ctrlWordAt, ctrlOrder_config, be_memRead_four h]

theorem throttlePointAt_eq {p : List Byte} {off : Nat} (h : off + 4 ≤ p.length) :
    throttlePointAt config p off = ⟨BitVec.ofNat 16 (be16 p off), BitVec.ofNat 16 (be16 p (off + 2))⟩ := by
  rw [throttlePointAt, be16At_eq (by omega), setpointAt, ctrlOrder_config, be_memRead_two (by omega)]

/-! ### The signed integer of a payload -/

/-- The sign bit of the payload is the sign bit of its first byte. -/
theorem be_lt_half_iff (b : Byte) (l : List Byte) : be (b :: l) < 128 * 256 ^ l.length ↔ b.toNat < 128 := by
  have hlow := be_lt l
  rw [be_cons]
  constructor
  · intro h
    exact Nat.lt_of_mul_lt_mul_right ((Nat.le_add_right _ _).trans_lt h)
  · intro h
    calc b.toNat * 256 ^ l.length + be l < (b.toNat + 1) * 256 ^ l.length := by rw [add_one_mul]; omega
      _ ≤ 128 * 256 ^ l.length := Nat.mul_le_mul_right _ h

theorem autoseqInt_eq {p : List Byte} (hp : 1 ≤ p.length) : autoseqInt config p = signedBigEndian p := by
  cases p with
  | nil => simp at hp
  | cons b l =>
    have hhalf : 2 ^ (8 * (b :: l).length - 1) = 128 * 256 ^ l.length := by
      rw [List.length_cons, show 8 * (l.length + 1) - 1 = 7 + 8 * l.length by omega, pow_add, pow_mul]
      norm_num
    have hfull : (2 : Int) ^ (8 * (b :: l).length) = 256 ^ (b :: l).length := by
      rw [pow_mul]
      norm_num
    have hfirst : byteAt (b :: l) 0 = b.toNat := rfl
    rw [autoseqInt, ctrlOrder_config, sint, hhalf, hfull, signedBigEndian, hfirst, ← be_eq_foldl]
    by_cases hb : b.toNat < 128
    · rw [if_pos ((be_lt_half_iff b l).2 hb), if_neg (by omega)]
    · rw [if_neg (mt (be_lt_half_iff b l).1 hb), if_pos (by omega)]

end Sys2Proof.Machine
end

section
/-! SUPPORT. The largest of a bank of numbers, taken by rounds of neighbours (00_scope.md R15): it is an entry, and no
entry exceeds it. -/

namespace Sys2Proof.Machine

/-- An entry of the list that no entry exceeds, in the order of the patterns. -/
def IsLargest (m : F64) (l : List F64) : Prop := m ∈ l ∧ ∀ x ∈ l, F64.key x ≤ F64.key m

theorem F64.max_eq_or (a b : F64) : F64.max a b = a ∨ F64.max a b = b := by
  unfold F64.max
  split_ifs
  · exact .inr rfl
  · exact .inl rfl

theorem F64.key_max {a b : F64} (ha : F64.isNaN a = false) (hb : F64.isNaN b = false) :
    F64.key (F64.max a b) = Max.max (F64.key a) (F64.key b) := by
  simp only [F64.max, F64.lt_iff ha hb]
  split_ifs with h
  · exact (max_eq_right h.le).symm
  · exact (max_eq_left (not_lt.1 h)).symm

theorem mem_of_mem_maxPairs {l : List F64} {z : F64} (h : z ∈ F64.maxPairs l) : z ∈ l := by
  induction l using F64.maxPairs.induct with
  | case1 x y rest ih =>
    rw [F64.maxPairs, List.mem_cons] at h
    obtain rfl | h := h
    · rcases F64.max_eq_or x y with hx | hy
      · simp [hx]
      · simp [hy]
    · simp [ih h]
  | case2 l hl => simpa [F64.maxPairs] using h

theorem exists_mem_maxPairs_ge {l : List F64} (hnan : ∀ x ∈ l, F64.isNaN x = false) {x : F64} (hx : x ∈ l) :
    ∃ z ∈ F64.maxPairs l, F64.key x ≤ F64.key z := by
  induction l using F64.maxPairs.induct with
  | case1 a b rest ih =>
    simp only [List.mem_cons, forall_eq_or_imp] at hnan hx
    obtain ⟨ha, hb, hrest⟩ := hnan
    have hkey := F64.key_max ha hb
    rw [F64.maxPairs]
    obtain rfl | rfl | hx := hx
    · exact ⟨_, List.mem_cons_self, hkey ▸ le_max_left _ _⟩
    · exact ⟨_, List.mem_cons_self, hkey ▸ le_max_right _ _⟩
    · obtain ⟨z, hz, hle⟩ := ih hrest hx
      exact ⟨z, List.mem_cons_of_mem _ hz, hle⟩
  | case2 l hl => exact ⟨x, by simpa [F64.maxPairs] using hx, le_rfl⟩

theorem length_maxPairs (l : List F64) : (F64.maxPairs l).length = (l.length + 1) / 2 := by
  induction l using F64.maxPairs.induct with
  | case1 x y rest ih =>
    rw [F64.maxPairs, List.length_cons, List.length_cons, List.length_cons, ih]
    omega
  | case2 l hl =>
    match l, hl with
    | [], _ => rfl
    | [_], _ => simp [F64.maxPairs]
    | x :: y :: rest, hl => exact absurd rfl (hl x y rest)

theorem IsLargest.of_maxPairs {l : List F64} (hnan : ∀ x ∈ l, F64.isNaN x = false) {m : F64}
    (h : IsLargest m (F64.maxPairs l)) : IsLargest m l := by
  obtain ⟨hmem, hlargest⟩ := h
  refine ⟨mem_of_mem_maxPairs hmem, fun x hx => ?_⟩
  obtain ⟨z, hz, hle⟩ := exists_mem_maxPairs_ge hnan hx
  exact hle.trans (hlargest z hz)

/-- A round shortens a list of two or more, so as many rounds as entries leave one. -/
theorem isLargest_maxRounds {k : Nat} {l : List F64} (hnan : ∀ x ∈ l, F64.isNaN x = false) (hne : l ≠ [])
    (hlen : l.length ≤ k + 1) : IsLargest (F64.maxRounds k l) l := by
  induction k generalizing l with
  | zero =>
    obtain ⟨x, rfl⟩ := List.length_eq_one_iff.1 (le_antisymm hlen (List.length_pos_iff.2 hne))
    simp [IsLargest, F64.maxRounds]
  | succ k ih =>
    match l with
    | [] => exact absurd rfl hne
    | [x] => simp [IsLargest, F64.maxRounds]
    | x :: y :: rest =>
      refine .of_maxPairs hnan (ih (fun z hz => hnan z (mem_of_mem_maxPairs hz)) (by simp [F64.maxPairs]) ?_)
      rw [length_maxPairs]
      simp only [List.length_cons] at *
      omega

theorem isLargest_maxBank {n : Nat} {v : Vector F64 n} (hn : n ≠ 0) (hnan : ∀ i : Fin n, F64.isNaN v[i] = false) :
    IsLargest (F64.maxBank v) v.toList := by
  refine isLargest_maxRounds (fun x hx => ?_) (by simpa using hn) (by simp)
  obtain ⟨i, hi, rfl⟩ := Vector.mem_iff_getElem.1 (Vector.mem_toList_iff.1 hx)
  exact hnan ⟨i, hi⟩

theorem F64.isFinite_of_nonneg {x : F64} (h : NonnegF64 x = true) : F64.isFinite x = true :=
  (Bool.and_eq_true_iff.1 h).1

theorem F64.toRat_le_toRat_iff (a b : F64) : F64.toRat a ≤ F64.toRat b ↔ F64.key a ≤ F64.key b := by
  rw [← not_lt, ← not_lt, F64.toRat_lt_toRat_iff]

/-- Settles O38: each round of neighbours keeps an entry above every entry of the round before. -/
theorem recordedSensorTimeIsTheLargest : Obligations.RecordedSensorTimeIsTheLargest := by
  intro s hs
  obtain ⟨hmem, hlargest⟩ := isLargest_maxBank (v := s.stime) (by decide) fun i =>
    F64.isNaN_eq_false_of_isFinite (F64.isFinite_of_nonneg (hs i))
  obtain ⟨i, hi, heq⟩ := Vector.mem_iff_getElem.1 (Vector.mem_toList_iff.1 hmem)
  refine ⟨⟨⟨i, hi⟩, heq.symm⟩, fun j => (F64.toRat_le_toRat_iff _ _).2 (hlargest _ ?_)⟩
  exact Vector.mem_toList_iff.2 (Vector.getElem_mem j.isLt)

end Sys2Proof.Machine
end

section
/-! SUPPORT. How far a rounding is from the exact quotient: half a step of the scale it is rounded at (00_scope.md
R15), and what that says of autosequence times (44_controller.md R184). -/

namespace Sys2Proof.Machine

open Sys2Proof.Claims

/-! ### The error of a rounding -/

theorem roundingScale_le {n d k : Nat} (hd : 0 < d) (h : n * unitsPerOne < 2 ^ (53 + k) * d) :
    roundingScale n d ≤ k := by
  have hquotient : n * unitsPerOne / d < 2 ^ (53 + k) := (Nat.div_lt_iff_lt_mul hd).2 h
  have hlog : Nat.log2 (n * unitsPerOne / d) < 53 + k := by
    rcases Nat.eq_zero_or_pos (n * unitsPerOne / d) with hzero | hpos
    · rw [hzero, Nat.log2_zero]
      omega
    · exact (Nat.log2_lt hpos.ne').2 hquotient
  unfold roundingScale
  omega

/-- The nearest magnitude is off by at most half a step of its scale. -/
theorem two_mul_unitsError_le (n : Nat) {d : Nat} (hd : 0 < d) :
    2 * unitsError n d (unboundedNearest n d) ≤ (d * 2 ^ roundingScale n d : Nat) := by
  obtain ⟨hlow, hhigh, _⟩ := roundHalfEven_bounds (n * unitsPerOne) (D := d * 2 ^ roundingScale n d) (by positivity)
  rw [unitsError, magnitudeUnits_unboundedNearest, Nat.mul_assoc, Nat.mul_comm _ d, roundedSignificand]
  rw [← abs_two, ← abs_mul, abs_le]
  omega

theorem two_pow_le_overflowBound : 2 ^ 53 ≤ overflowBound :=
  (by decide : 2 ^ 53 ≤ 2 ^ 54 - 1).trans (Nat.le_mul_of_pos_right _ (by positivity))

section Bounded
variable {n d e : Nat} (hd : 0 < d) (h : n * 2 ^ e < 2 ^ 53 * d)
include hd h

theorem F64.isFinite_nearest_of_lt (neg : Bool) : F64.isFinite (F64.nearest neg n d) = true := by
  rw [F64.isFinite_nearest_iff neg n hd]
  calc n ≤ n * 2 ^ e := Nat.le_mul_of_pos_right n (by positivity)
    _ < 2 ^ 53 * d := h
    _ ≤ overflowBound * d := Nat.mul_le_mul_right d two_pow_le_overflowBound

/-- A number below `2 ^ (53 - e)` is rounded at a step of at most `2 ^ -e`. -/
theorem F64.abs_toRat_nearest_sub_le (he : e ≤ 1074) (neg : Bool) :
    |F64.toRat (F64.nearest neg n d) - (withSign neg n : Rat) / d| ≤ 1 / 2 ^ (e + 1) := by
  have hunits : unitsPerOne = 2 ^ e * 2 ^ (1074 - e) := by rw [unitsPerOne, ← pow_add, Nat.add_sub_cancel' he]
  have hscale : roundingScale n d ≤ 1074 - e := roundingScale_le hd <| by
    rw [hunits, ← Nat.mul_assoc, pow_add, Nat.mul_right_comm _ _ d]
    exact Nat.mul_lt_mul_of_pos_right h (by positivity)
  have hstep : d * 2 ^ roundingScale n d ≤ d * 2 ^ (1074 - e) :=
    Nat.mul_le_mul_left d (Nat.pow_le_pow_right two_pos hscale)
  have herror : 2 * signedError neg n d (F64.nearest neg n d) ≤ (d * 2 ^ (1074 - e) : Nat) := by
    rw [signedError_of_isNeg_eq (F64.isNeg_nearest neg n d),
      F64.magnitude_nearest_of_isFinite (F64.isFinite_nearest_of_lt hd h neg)]
    exact (two_mul_unitsError_le n hd).trans (Int.ofNat_le.2 hstep)
  have hd' : (0 : Rat) < d := by exact_mod_cast hd
  have herror' : 2 * (signedError neg n d (F64.nearest neg n d) : Rat) ≤ d * 2 ^ (1074 - e) := by
    exact_mod_cast herror
  rw [abs_toRat_sub _ neg n hd, hunits, div_le_div_iff₀ (by positivity) (by positivity)]
  push_cast
  calc (signedError neg n d (F64.nearest neg n d) : Rat) * 2 ^ (e + 1)
      = 2 * (signedError neg n d (F64.nearest neg n d) : Rat) * 2 ^ e := by ring
    _ ≤ d * 2 ^ (1074 - e) * 2 ^ e := by gcongr
    _ = 1 * (2 ^ e * 2 ^ (1074 - e) * d) := by ring

end Bounded

/-! ### Autosequence times -/

theorem autoseqSeconds_config (v : Int) : autoseqSeconds config v = F64.ofIntDiv v 1000000 := rfl

theorem F64.eq_iff_toRat_eq {x y : F64} (hx : F64.isFinite x = true) (hy : F64.isFinite y = true) :
    F64.eq x y = true ↔ F64.toRat x = F64.toRat y :=
  ((comparisonsFollowTheExactOrder x y).1 hx hy).2

section Below2Pow33Seconds
variable {v : Int} (hv : v.natAbs < 2 ^ 33 * 1000000)
include hv

theorem isFinite_autoseqSeconds : F64.isFinite (autoseqSeconds config v) = true := by
  rw [autoseqSeconds_config]
  exact F64.isFinite_nearest_of_lt (e := 20) (by decide) (by omega) _

/-- Below 2^33 s a time is less than half a microsecond off. -/
theorem abs_toRat_autoseqSeconds_sub_le :
    |F64.toRat (autoseqSeconds config v) - (v : Rat) / 1000000| ≤ 1 / 2 ^ 21 := by
  have hbound := F64.abs_toRat_nearest_sub_le (n := v.natAbs) (d := 1000000) (e := 20) (by decide) (by omega)
    (by decide) (decide (v < 0))
  rwa [withSign_decide_neg] at hbound

end Below2Pow33Seconds

/-- Settles O40: times of two different integers are a microsecond apart, and each is rounded by less than half of
that. -/
theorem equalTimesMeanEqualIntegersBelow2Pow33Seconds :
    Obligations.EqualTimesMeanEqualIntegersBelow2Pow33Seconds := by
  intro v w hv hw
  rw [F64.eq_iff_toRat_eq (isFinite_autoseqSeconds hv) (isFinite_autoseqSeconds hw)]
  refine ⟨fun heq => ?_, fun heq => by rw [heq]⟩
  have hvError := abs_toRat_autoseqSeconds_sub_le hv
  have hwError := abs_toRat_autoseqSeconds_sub_le hw
  rw [heq, abs_le] at hvError
  rw [abs_le] at hwError
  have hclose : |((v - w : Int) : Rat)| < 1 := by
    rw [abs_lt]
    push_cast
    constructor <;> linarith
  exact sub_eq_zero.1 (Int.abs_lt_one_iff.1 (by exact_mod_cast hclose))

/-- Refutes O39: at 2^53 microseconds, above 2^33 s, the step of the f64 times is more than a microsecond, and 2^53 and
2^53 - 1 are rounded to one time (log 15). -/
theorem not_equalTimesMeanEqualIntegersUpTo2Pow53 : ¬ Obligations.EqualTimesMeanEqualIntegersUpTo2Pow53 := by
  intro h
  have hsame : F64.eq (autoseqSeconds config (2 ^ 53)) (autoseqSeconds config (2 ^ 53 - 1)) = true := by decide +kernel
  exact absurd ((h (2 ^ 53) (2 ^ 53 - 1) (by decide) (by decide)).1 hsame) (by decide)

end Sys2Proof.Machine
end

section
/-! SUPPORT. The statements of 44_controller.md on whole frames: autosequence, throttle, and the generic channel words,
said once for the three generic classes, which differ only in their addresses. -/

namespace Sys2Proof.Machine

open Sys2Proof.Claims

/-! ### Autosequence frames -/

section Autoseq

variable (t : F64) (s : State)

theorem autoseqTime_of_duplicate (h : s.asValid = true ∧ F64.eq t s.asTime = true) :
    autoseqTime t s = putDup (s.asDup + 1) s := by
  obtain ⟨hvalid, heq⟩ := h
  rw [autoseqTime, hvalid, heq, if_pos (by rfl)]

theorem autoseqTime_of_change (h : ¬ (s.asValid = true ∧ F64.eq t s.asTime = true)) :
    autoseqTime t s = putAutoseq (maxSensorTime s) t (putDup 0 s) := by
  rw [autoseqTime, if_neg (by simpa only [Bool.and_eq_true] using h)]

end Autoseq

theorem workOf_autoseq {p : List Byte} (hp : 1 ≤ p.length) (s : State) :
    workOf (.autoseq p) s = autoseqTime (F64.ofIntDiv (signedBigEndian p) 1000000) s := by
  rw [workOf, autoseq, if_neg (by omega), autoseqInt_eq hp, autoseqSeconds_config]

/-- Settles O37: the decoded time takes the duplicate path or the change path. -/
theorem autoseqFrameCountsOrAppends : Obligations.AutoseqFrameCountsOrAppends := by
  intro p s _
  refine ⟨fun hp => exec_eq_counted (fun u => ?empty) s,
    fun hp => ⟨fun hdup => ?duplicate, fun hchange => ?change⟩⟩
  case empty => rw [workOf, autoseq, if_pos hp]
  case duplicate =>
    rw [exec_eq, workOf_autoseq hp, autoseqTime_of_duplicate _ (beginStep s) hdup]
    rfl
  case change =>
    rw [exec_eq, workOf_autoseq hp, autoseqTime_of_change _ (beginStep s) hchange]
    rfl

/-! ### Throttle frames -/

theorem throttleSentinel_eq {p : List Byte} (hp : 4 ≤ p.length) (s : State) :
    throttleSentinel p s = { s with thr := if be16 p 0 = 0 then [] else s.thr } := by
  rw [throttleSentinel]
  simp only [be16At_eq_zero_iff (p := p) (off := 0) (by omega)]
  split_ifs <;> rfl

theorem throttlePair2_eq {p : List Byte} (hp : p.length ≤ 8) (s : State) :
    throttlePair2 config p s = { s with
      thr := s.thr ++
        if p.length = 8 then [⟨BitVec.ofNat 16 (be16 p 4), BitVec.ofNat 16 (be16 p 6)⟩] else [] } := by
  rw [throttlePair2]
  split_ifs
  · rw [throttlePointAt_eq (by omega)]
    rfl
  · omega
  · omega
  · rw [List.append_nil]

/-- Settles O41: the sentinel clears before the first append, and the second pair follows the first. -/
theorem throttleFrameAppendsItsPairs : Obligations.ThrottleFrameAppendsItsPairs := by
  intro p s hi
  have hlen : p.length ≤ 8 := of_decide_eq_true (Bool.and_eq_true_iff.1 hi).1
  refine ⟨fun hp => exec_eq_counted (fun u => ?short) s, fun hp => ?pairs⟩
  case short => rw [workOf, throttle, if_pos hp]
  case pairs =>
    rw [exec_eq, workOf, throttle, if_neg (by omega), throttleSentinel_eq hp, throttlePointAt_eq (by omega),
      throttlePair2_eq hlen]
    rfl

/-! ### The controller address -/

/-- The rounded address is that of the nearest controller (44_controller.md R200, R201). -/
theorem roundAddress_eq {n : Nat} (hn : 1001 ≤ n) : roundAddress config n = 1000 + 100 * nearestController n := by
  rw [roundAddress_config, nearestController]
  split_ifs <;> omega

theorem controllerOf_eq {n : Nat} (hn : 1001 ≤ n) : controllerOf config n = nearestController n := by
  rw [controllerOf_config, roundAddress_eq hn]
  omega

theorem nearestController_of_lt {n : Nat} (h : n % 100 < 50) : nearestController n = n / 100 - 10 := if_pos h

theorem nearestController_of_gt {n : Nat} (h : 50 < n % 100) : nearestController n = n / 100 + 1 - 10 := by
  rw [nearestController, if_neg (by omega), if_pos h]

theorem nearestController_le {n : Nat} (hn : n ≤ 2047) : nearestController n ≤ 10 := by
  rw [nearestController]
  split_ifs <;> omega

/-- Which word of the bank an address names: a channel the bank has takes one address (44_controller.md R200). -/
theorem names_word_iff {n : Nat} (hn : 1001 ≤ n) {c ch : Nat} (hch : ch < 50) :
    controllerOf config n = c ∧ channelOf config n = ch ↔ n = 1000 + 100 * c + ch := by
  rw [controllerOf_eq hn, channelOf_config]
  constructor
  · rintro ⟨rfl, rfl⟩
    rw [nearestController_of_lt hch]
    omega
  · rintro rfl
    rw [nearestController_of_lt (by omega)]
    omega

/-- Settles O42: the rounded address is the nearest controller's, below the half the hundred of the address, above it
the next. -/
theorem controllerAddressArithmetic : Obligations.ControllerAddressArithmetic := by
  intro n hlo hhi
  rw [roundAddress_eq hlo, controllerOf_eq hlo, channelOf_config]
  refine ⟨rfl, rfl, nearestController_le hhi, fun hch => ?below, fun hch => ?above⟩
  case below =>
    rw [nearestController_of_lt (by omega)]
    omega
  case above =>
    rw [nearestController_of_gt (by omega)]
    omega

/-! ### Writes of channel words -/

section Write

variable (cfg : Config) (c ch : Nat) (w : Word) (p : List Byte) (s : State)

theorem ctrlWrite_cbank_getElem {c' ch' : Nat} (hc : c' < nCtrl) (hch : ch' < nChan) :
    (ctrlWrite c ch w s).cbank[c'][ch'] = if c = c' ∧ ch = ch' then w else s.cbank[c'][ch'] := by
  by_cases hword : c = c' ∧ ch = ch'
  · obtain ⟨rfl, rfl⟩ := hword
    simp only [ctrlWrite, if_pos hch, putCtrl_cbank, getElem_modifyAt_self, and_self, if_true]
  · rw [if_neg hword, ctrlWrite]
    split_ifs
    · exact putCtrl_cbank_getElem_ne s w hword hc hch
    · rfl

theorem ctrlWrite_result_of_lt (h : ch < nChan) : (ctrlWrite c ch w s).result = s.result := by
  rw [ctrlWrite, if_pos h, putCtrl_result]

theorem ctrlWrite_result_of_le (h : nChan ≤ ch) : (ctrlWrite c ch w s).result = s.result.join (.range c ch) := by
  rw [ctrlWrite, if_neg (by omega), raise_result]

variable {p}

theorem genericAt_of_eight (h8 : p.length = 8) :
    genericAt cfg c ch p s =
      ctrlWrite c (ch + 1) (ctrlWordAt cfg p 4) (ctrlWrite c ch (ctrlWordAt cfg p 0) s) := if_pos h8

theorem genericAt_of_ne_eight (hp : 4 ≤ p.length) (h8 : p.length ≠ 8) :
    genericAt cfg c ch p s = ctrlWrite c ch (ctrlWordAt cfg p 0) s := by
  rw [genericAt, if_neg h8, if_pos hp]

theorem genericAt_cbank_getElem (hp : 4 ≤ p.length) {c' ch' : Nat} (hc : c' < nCtrl) (hch : ch' < nChan) :
    (genericAt cfg c ch p s).cbank[c'][ch'] =
      if c = c' ∧ ch = ch' then ctrlWordAt cfg p 0
      else if p.length = 8 ∧ c = c' ∧ ch + 1 = ch' then ctrlWordAt cfg p 4
      else s.cbank[c'][ch'] := by
  by_cases h8 : p.length = 8
  · simp only [genericAt_of_eight _ _ _ _ h8, ctrlWrite_cbank_getElem _ _ _ _ hc hch, h8, true_and]
    split_ifs
    · omega
    all_goals rfl
  · simp only [genericAt_of_ne_eight _ _ _ _ hp h8, ctrlWrite_cbank_getElem _ _ _ _ hc hch, h8, false_and, if_false]

/-- RANGE names the first write that is dropped: the second write's code does not replace it (60_exceptions.md
R235). -/
theorem genericAt_result (hp : 4 ≤ p.length) (hs : s.result = .done) :
    (genericAt cfg c ch p s).result =
      if 50 ≤ ch then .range c ch else if p.length = 8 ∧ ch = 49 then .range c 50 else .done := by
  have hfirst (h : ch < nChan) (w : Word) : (ctrlWrite c ch w s).result = .done := by
    rw [ctrlWrite_result_of_lt _ _ _ _ h, hs]
  have hdropped (h : nChan ≤ ch) (w : Word) : (ctrlWrite c ch w s).result = .range c ch := by
    rw [ctrlWrite_result_of_le _ _ _ _ h, hs, join_done]
  by_cases h8 : p.length = 8
  · rw [genericAt_of_eight _ _ _ _ h8]
    split_ifs with hout hlast
    · rw [ctrlWrite_result_of_le _ _ _ _ (Nat.le_succ_of_le hout), hdropped hout, join_range]
    · obtain ⟨_, rfl⟩ := hlast
      rw [ctrlWrite_result_of_le _ _ _ _ le_rfl, hfirst (by decide), join_done]
    · have hin : ch + 1 < 50 := by omega
      rw [ctrlWrite_result_of_lt _ _ _ _ hin, hfirst (Nat.lt_of_succ_lt hin)]
  · rw [genericAt_of_ne_eight _ _ _ _ hp h8]
    split_ifs with hout
    · exact hdropped hout _
    · omega
    · exact hfirst (not_le.1 hout) _

end Write

/-! ### Generic frames -/

/-- The state after a generic frame. -/
def genericNext (a : Addr) (p : List Byte) (s : State) : State :=
  countFrame (genericOrIgnored config a p (beginStep s))

section Generic

variable {a : Addr} (ha : 1001 ≤ a.toNat) {p : List Byte} (s : State)

theorem genericOrIgnored_of_le_length (a : Addr) (hp : 4 ≤ p.length) :
    genericOrIgnored config a p s =
      genericAt config (controllerOf config a.toNat) (channelOf config a.toNat) p s := by
  rw [genericOrIgnored, if_pos (by omega), generic]

theorem genericOrIgnored_of_empty (a : Addr) (hp : p.length = 0) :
    genericOrIgnored config a p s = raise .ignored s := by
  rw [genericOrIgnored, if_neg (by omega)]

theorem genericOrIgnored_of_short (a : Addr) (hp : 1 ≤ p.length ∧ p.length ≤ 3) :
    genericOrIgnored config a p s = raise .short s := by
  rw [genericOrIgnored, if_pos (by omega), generic, genericAt, if_neg (by omega), if_neg (by omega)]

include ha

theorem ctrlWordsAfter_genericNext (hp : 4 ≤ p.length) : CtrlWordsAfter a p s (genericNext a p s) := by
  intro c ch
  have hfirst := names_word_iff ha (c := c) ch.isLt
  have hnext : (p.length = 8 ∧ controllerOf config a.toNat = c ∧ channelOf config a.toNat + 1 = ch) ↔
      (p.length = 8 ∧ 0 < ch.val ∧ a.toNat + 1 = 1000 + 100 * c.val + ch.val) := by
    have hbefore := names_word_iff ha (c := c) (ch := ch - 1) ((Nat.sub_le _ _).trans_lt ch.isLt)
    omega
  simp only [genericNext, countFrame_cbank, genericOrIgnored_of_le_length _ a hp, Fin.getElem_fin,
    genericAt_cbank_getElem _ _ _ _ hp c.isLt ch.isLt, beginStep_cbank, hfirst, hnext]
  rw [ctrlWordAt_eq (by omega)]
  split_ifs
  · rfl
  · rw [ctrlWordAt_eq (by omega)]
  · rfl

theorem genericNext_result (hp : 4 ≤ p.length) : (genericNext a p s).result = rangeResult a.toNat p.length := by
  rw [genericNext, countFrame_result, genericOrIgnored_of_le_length _ a hp,
    genericAt_result _ _ _ _ hp (beginStep_result s), controllerOf_eq ha]
  rfl

end Generic

theorem intendedKind_of_eight {n : Nat} {k : Kind} (h : intendedKind config n 8 = some k) (L : Nat) :
    intendedKind config n L = if L = 8 then some k else if 4 ≤ L then some .f32 else none := by
  by_cases h8 : L = 8
  · rw [h8, h, if_pos rfl]
  · rw [intendedKind, if_neg h8, if_neg h8]

/-- What is left to say of each generic class: its work is the generic one, and what its addresses mean. -/
theorem genericFrame_of_class {mk : Addr → List Byte → Instr} {kind : Kind} {r : Nat → Nat → Result}
    (hwork : ∀ a p s, workOf (mk a p) s = genericOrIgnored config a p s)
    (hset : ∀ a p, writeSet (mk a p).frameClass = [.cbank])
    (haddr : ∀ a p, (mk a p).wellFormed = true → 1001 ≤ a.toNat ∧ intendedKind config a.toNat 8 = some kind ∧
      rangeResult a.toNat p.length = r a.toNat p.length) :
    GenericFrame mk kind r := by
  intro a p s hi
  obtain ⟨ha, hkind, hresult⟩ := haddr a p hi
  refine ⟨intendedKind_of_eight hkind p.length, fun hp => exec_eq_counted (fun u => ?empty) s,
    fun hp => exec_eq_counted (fun u => ?short) s, fun hp => ?words⟩
  case empty => rw [hwork, genericOrIgnored_of_empty u a hp]
  case short => rw [hwork, genericOrIgnored_of_short u a hp]
  case words =>
    have hexec : exec (mk a p) s = .next (genericNext a p s) := by rw [exec_eq, hwork, genericNext]
    have hkept := kept_of_exec hi hexec
    rw [hset] at hkept
    exact ⟨_, hexec, ctrlWordsAfter_genericNext ha s hp, (genericNext_result ha s hp).trans hresult, hkept⟩

theorem rangeResult_of_lt {n : Nat} (h : n % 100 < 49) (L : Nat) : rangeResult n L = .done := by
  rw [rangeResult, if_neg (by omega), if_neg (by omega)]

/-- Settles O43: the two addresses name channels 2 and 4 of controller 5, which the bank has. -/
theorem ctrlI32FrameWritesItsWords : Obligations.CtrlI32FrameWritesItsWords := by
  refine genericFrame_of_class (fun _ _ _ => rfl) (fun _ _ => rfl) fun a p hi => ?_
  obtain ⟨_, haddr⟩ := Bool.and_eq_true_iff.1 hi
  simp only [Instr.addressOk, ctrlI32Addr, Bool.or_eq_true, beq_iff_eq] at haddr
  refine ⟨by omega, ?_, rangeResult_of_lt (by omega) _⟩
  rw [intendedKind_config, if_pos haddr]

/-- Settles O44: the addresses name channels 14 and 15, which the bank has. -/
theorem ctrlU32FrameWritesItsWords : Obligations.CtrlU32FrameWritesItsWords := by
  refine genericFrame_of_class (fun _ _ _ => rfl) (fun _ _ => rfl) fun a p hi => ?_
  obtain ⟨_, haddr⟩ := Bool.and_eq_true_iff.1 hi
  simp only [Instr.addressOk, ctrlU32Addr, Bool.and_eq_true, Bool.or_eq_true, decide_eq_true_eq, beq_iff_eq] at haddr
  obtain ⟨hlo, hch⟩ := haddr
  refine ⟨hlo, ?_, rangeResult_of_lt (by omega) _⟩
  rw [intendedKind_config, if_neg (by omega), if_pos hch]

/-- Settles O45: any channel may come, so a write can fall outside the bank and is dropped with RANGE. -/
theorem ctrlF32FrameWritesItsWords : Obligations.CtrlF32FrameWritesItsWords := by
  refine genericFrame_of_class (fun _ _ _ => rfl) (fun _ _ => rfl) fun a p hi => ?_
  obtain ⟨_, haddr⟩ := Bool.and_eq_true_iff.1 hi
  simp only [Instr.addressOk, ctrlF32Addr, ctrlI32Addr, ctrlU32Addr, Bool.and_eq_true, Bool.not_eq_true',
    Bool.or_eq_false_iff, Bool.and_eq_false_iff, bne_iff_ne, ne_eq, beq_eq_false_iff_ne, decide_eq_true_eq,
    decide_eq_false_iff_not] at haddr
  refine ⟨by omega, ?_, rfl⟩
  rw [intendedKind_config, if_neg (by omega), if_neg (by omega)]

end Sys2Proof.Machine
end

section
/-! SUPPORT. The statement of 45_clock_debug.md on a whole frame: the little-endian words of the bytes present, the
number nearest one millionth, and the record. -/

namespace Sys2Proof.Machine

open Sys2Proof.Claims

/-! ### Bytes, least significant first -/

theorem le_cons (b : Byte) (l : List Byte) : le (b :: l) = b.toNat + 256 * le l := by
  rw [le, le, List.reverse_cons, be_append_singleton, Nat.mul_comm, Nat.add_comm]

theorem byteAt_of_le {p : List Byte} {k : Nat} (h : p.length ≤ k) : byteAt p k = 0 := by
  rw [byteAt, List.getD_eq_default _ _ h]
  rfl

theorem memRead_of_le {p : List Byte} {off : Nat} (h : p.length ≤ off) (n : Nat) : memRead p off n = [] := by
  rw [memRead, List.drop_eq_nil_of_le h, List.take_nil]

/-- A missing byte counts as an absent most significant byte, so it needs no premise on the length: past the end of the
payload both sides are 0 (45_clock_debug.md R222). -/
theorem le_memRead_succ (p : List Byte) (off n : Nat) :
    le (memRead p off (n + 1)) = byteAt p off + 256 * le (memRead p (off + 1) n) := by
  rcases Nat.lt_or_ge off p.length with h | h
  · rw [memRead, List.drop_eq_getElem_cons h, List.take_succ_cons, le_cons, byteAt_eq h, memRead]
  · rw [memRead_of_le h, memRead_of_le (by omega), byteAt_of_le h]
    rfl

theorem le_memRead_four (p : List Byte) (off : Nat) : le (memRead p off 4) = le32 p off := by
  have hnone (k : Nat) : le (memRead p k 0) = 0 := rfl
  simp only [le_memRead_succ, hnone, le32, Nat.add_assoc, Nat.reduceAdd]
  omega

/-! ### The record -/

/-- The number nearest one millionth (45_clock_debug.md R223). -/
theorem nearest_microDen : F64.nearest false 1 config.microDen = 0x3EB0C6F7A0B5ED8D#64 := by decide +kernel

theorem debugRecord_eq (p : List Byte) (s : State) :
    debugRecord config p s = ⟨s.frameCount, BitVec.ofNat 64 (le32 p 0), BitVec.ofNat 64 (le32 p 4),
      F64.add (F64.ofNat (le32 p 0)) (F64.mul (F64.ofNat (le32 p 4)) 0x3EB0C6F7A0B5ED8D#64)⟩ := by
  rw [debugRecord, combinedSeconds, clockSeconds, clockMicroseconds, le_memRead_four, le_memRead_four, nearest_microDen]

/-! ### Clock frames -/

/-- SHORT is the only thing that a missing byte changes. -/
theorem raiseIfShort_eq_of_done {s : State} (h : s.result = .done) (p : List Byte) :
    raiseIfShort p s = { s with result := shortBelow8 p } := by
  rw [← raiseIfShort_result_of_done h p, raiseIfShort]
  split_ifs <;> rfl

/-- Settles O46: the record is appended before the frame is counted, and a missing byte only raises SHORT. -/
theorem clockFrameAppendsItsRecord : Obligations.ClockFrameAppendsItsRecord := by
  intro p s _
  have hdone : (appendDebug (debugRecord config p (beginStep s)) (beginStep s)).result = .done := rfl
  rw [exec_eq, workOf, clock, raiseIfShort_eq_of_done hdone, debugRecord_eq]
  rfl

end Sys2Proof.Machine
end

section
/-! SUPPORT. Numbers that are not negative: sums, products and quotients of them that stay below a finite bound are
such numbers again (00_scope.md R15, 60_exceptions.md R247). -/

namespace Sys2Proof.Machine

open Sys2Proof.Claims

/-! ### The range of the numbers -/

theorem nonnegF64_iff (x : F64) : NonnegF64 x = true ↔ F64.isFinite x = true ∧ F64.isNeg x = false := by
  rw [NonnegF64, Bool.and_eq_true, Bool.not_eq_true']

theorem F64.toRat_nonneg {x : F64} (h : F64.isNeg x = false) : 0 ≤ F64.toRat x := by
  rw [F64.toRat, F64.sunits_eq_withSign, h]
  exact div_nonneg (Int.cast_nonneg (Int.natCast_nonneg _)) (Nat.cast_nonneg _)

theorem units_le_of_isFinite {x : F64} (h : F64.isFinite x = true) :
    F64.units x ≤ (2 ^ 53 - 1) * 2 ^ 971 * unitsPerOne := by
  have hlast : infBits - 1 = 2045 * 2 ^ 52 + (2 ^ 53 - 1) := by decide
  have hmag : F64.magnitude x ≤ infBits - 1 := Nat.le_sub_one_of_lt ((F64.isFinite_iff x).1 h)
  calc F64.units x = magnitudeUnits (F64.magnitude x) := units_eq_magnitudeUnits x
    _ ≤ magnitudeUnits (infBits - 1) := strictMono_magnitudeUnits.monotone hmag
    _ = (2 ^ 53 - 1) * 2 ^ (971 + 1074) := by rw [hlast, magnitudeUnits_scaled (by decide) (by decide)]
    _ = (2 ^ 53 - 1) * 2 ^ 971 * unitsPerOne := by rw [unitsPerOne, pow_add, Nat.mul_assoc]

/-- The largest finite number is half a step below the overflow bound. -/
theorem F64.toRat_add_halfStep_le {x : F64} (h : F64.isFinite x = true) :
    F64.toRat x + 2 ^ 970 ≤ overflowBound := by
  have hU : (0 : Rat) < unitsPerOne := by exact_mod_cast unitsPerOne_pos
  have hunits : (F64.units x : Rat) ≤ ((2 ^ 53 - 1) * 2 ^ 971 : Nat) * unitsPerOne := by
    exact_mod_cast units_le_of_isFinite h
  have hlargest : (((2 ^ 53 - 1) * 2 ^ 971 : Nat) : Rat) = overflowBound - 2 ^ 970 := by
    rw [overflowBound, pow_succ 2 970, Nat.cast_mul, Nat.cast_mul, Nat.cast_mul, Nat.cast_pow, Nat.cast_ofNat]
    generalize (2 : Rat) ^ 970 = p
    norm_num
    ring
  rw [← le_sub_iff_add_le, ← hlargest]
  calc F64.toRat x ≤ |F64.toRat x| := le_abs_self _
    _ = F64.units x / unitsPerOne := by rw [F64.toRat, F64.sunits_eq_withSign, abs_withSign_div]
    _ ≤ ((2 ^ 53 - 1) * 2 ^ 971 : Nat) := (div_le_iff₀ hU).2 hunits

/-- What is below 2^53, far less than half the last step, carries no finite number over the overflow bound. -/
theorem F64.toRat_add_lt_overflowBound {x : F64} (h : F64.isFinite x = true) {q : Rat} (hq : q < 2 ^ 53) :
    F64.toRat x + q < overflowBound := by
  have hstep : (2 : Rat) ^ 53 < 2 ^ 970 := pow_lt_pow_right₀ one_lt_two (by decide)
  exact (add_lt_add_right (hq.trans hstep) _).trans_le (F64.toRat_add_halfStep_le h)

/-! ### Roundings below a number -/

section Rounding

variable {x y : F64} {q : Rat} (hx : IsRounding x q)

include hx

theorem IsRounding.isFinite_of_lt (h : |q| < overflowBound) : F64.isFinite x = true := by
  obtain ⟨hfin, _⟩ := hx
  rwa [hfin, ← cast_overflowBound]

theorem IsRounding.isFinite_of_le (hy : F64.isFinite y = true) (hq : 0 ≤ q) (h : q ≤ F64.toRat y) :
    F64.isFinite x = true := by
  have hhalf : (0 : Rat) < 2 ^ 970 := by positivity
  refine IsRounding.isFinite_of_lt hx ?_
  rw [abs_of_nonneg hq]
  exact (h.trans_lt (lt_add_of_pos_right _ hhalf)).trans_le (F64.toRat_add_halfStep_le hy)

/-- Rounding does not pass a number. -/
theorem IsRounding.toRat_le (hy : F64.isFinite y = true) (hq : 0 ≤ q) (h : q ≤ F64.toRat y) :
    F64.toRat x ≤ F64.toRat y := by
  have hfin := IsRounding.isFinite_of_le hx hy hq h
  obtain ⟨_, hnearest, _⟩ := hx
  obtain ⟨hnear, _⟩ := hnearest hfin y hy
  rw [abs_of_nonneg (sub_nonneg.2 h)] at hnear
  linarith [le_abs_self (F64.toRat x - q)]

end Rounding

/-! ### Operations on numbers that are not negative -/

section Operations

variable {a b : F64} (ha : NonnegF64 a = true) (hb : NonnegF64 b = true)

include ha hb

theorem nonnegF64_add (hsum : F64.toRat a + F64.toRat b < overflowBound) : NonnegF64 (F64.add a b) = true := by
  obtain ⟨hafin, ha0⟩ := (nonnegF64_iff a).1 ha
  obtain ⟨hbfin, hb0⟩ := (nonnegF64_iff b).1 hb
  refine (nonnegF64_iff _).2 ⟨IsRounding.isFinite_of_lt (isRounding_add hafin hbfin) ?_,
    F64.isNeg_add_of_nonneg hafin hbfin ha0 hb0⟩
  rwa [abs_of_nonneg (add_nonneg (F64.toRat_nonneg ha0) (F64.toRat_nonneg hb0))]

theorem nonnegF64_mul (hone : F64.toRat b ≤ 1) :
    NonnegF64 (F64.mul a b) = true ∧ F64.toRat (F64.mul a b) ≤ F64.toRat a := by
  obtain ⟨hafin, ha0⟩ := (nonnegF64_iff a).1 ha
  obtain ⟨hbfin, hb0⟩ := (nonnegF64_iff b).1 hb
  have hround := isRounding_mul hafin hbfin
  have hnonneg := mul_nonneg (F64.toRat_nonneg ha0) (F64.toRat_nonneg hb0)
  have hle := mul_le_of_le_one_right (F64.toRat_nonneg ha0) hone
  have hneg : F64.isNeg (F64.mul a b) = false := by
    rw [F64.mul_of_isFinite hafin hbfin, F64.isNeg_nearest, ha0, hb0, bne_self_eq_false]
  exact ⟨(nonnegF64_iff _).2 ⟨IsRounding.isFinite_of_le hround hafin hnonneg hle, hneg⟩,
    IsRounding.toRat_le hround hafin hnonneg hle⟩

theorem nonnegF64_div (hone : 1 ≤ F64.toRat b) : NonnegF64 (F64.div a b) = true := by
  obtain ⟨hafin, ha0⟩ := (nonnegF64_iff a).1 ha
  obtain ⟨hbfin, hb0⟩ := (nonnegF64_iff b).1 hb
  have hzero : F64.toRat b ≠ 0 := (one_pos.trans_le hone).ne'
  have hunits : F64.units b ≠ 0 := fun h => hzero <| by
    rw [F64.toRat, F64.sunits_eq_withSign, h, withSign_zero, Int.cast_zero, zero_div]
  have hnonneg := div_nonneg (F64.toRat_nonneg ha0) (F64.toRat_nonneg hb0)
  have hneg : F64.isNeg (F64.div a b) = false := by
    rw [F64.div_of_isFinite hafin hbfin hunits, F64.isNeg_nearest, ha0, hb0, bne_self_eq_false]
  have hle := div_le_self (F64.toRat_nonneg ha0) hone
  exact (nonnegF64_iff _).2
    ⟨IsRounding.isFinite_of_le (isRounding_div hafin hbfin hzero) hafin hnonneg hle, hneg⟩

end Operations

theorem nonnegF64_ofNat {n : Nat} (hn : n < 2 ^ 53) : NonnegF64 (F64.ofNat n) = true :=
  (nonnegF64_iff _).2 ⟨F64.isFinite_ofNat hn, F64.isNeg_ofNat n⟩

theorem F64.toRat_ofNat_lt {n : Nat} (hn : n < 2 ^ 53) : F64.toRat (F64.ofNat n) < 2 ^ 53 := by
  rw [F64.toRat_ofNat hn]
  exact_mod_cast hn

/-! ### Quotients that are no negative zero -/

/-- A quotient of more than half a unit of 2^-1074 is not rounded to zero. -/
theorem unboundedNearest_ne_zero {n d : Nat} (hd : 0 < d) (h : d < 2 * (n * unitsPerOne)) :
    unboundedNearest n d ≠ 0 := by
  intro hzero
  have hone : magnitudeUnits 1 = 1 := rfl
  have hnear := (unboundedNearest_nearest n hd 1).1
  rw [hzero, unitsError_le_iff hd one_pos, magnitudeUnits_zero, hone] at hnear
  omega

theorem ordinaryF64_of_magnitude_ne_zero {x : F64} (hfin : F64.isFinite x = true)
    (h : F64.isNeg x = true → F64.magnitude x ≠ 0) : OrdinaryF64 x = true := by
  refine Bool.and_eq_true_iff.2 ⟨hfin, bne_iff_ne.2 ?_⟩
  rintro rfl
  exact h (by decide) (by decide)

theorem ordinaryF64_ofIntDiv {z : Int} {d : Nat} (hd : 0 < d) (hz : z.natAbs < 2 ^ 53 * d) (hunits : d < unitsPerOne) :
    OrdinaryF64 (F64.ofIntDiv z d) = true := by
  have hfin : F64.isFinite (F64.ofIntDiv z d) = true :=
    F64.isFinite_nearest_of_lt (e := 0) hd (by rwa [pow_zero, Nat.mul_one]) _
  refine ordinaryF64_of_magnitude_ne_zero hfin fun hneg => ?_
  rw [F64.ofIntDiv] at hneg hfin ⊢
  rw [F64.isNeg_nearest, decide_eq_true_eq] at hneg
  rw [F64.magnitude_nearest_of_isFinite hfin]
  refine unboundedNearest_ne_zero hd ?_
  calc d < unitsPerOne := hunits
    _ ≤ z.natAbs * unitsPerOne := Nat.le_mul_of_pos_left _ (by omega)
    _ ≤ 2 * (z.natAbs * unitsPerOne) := Nat.le_mul_of_pos_left _ two_pos

end Sys2Proof.Machine
end

section
/-! SUPPORT. The statements of 60_exceptions.md: waiting, the table of the result codes, and the f64 registers and
ledgers, which hold no exceptional value. -/

namespace Sys2Proof.Machine

open Sys2Proof.Claims

/-! ### Waiting -/

/-- Settles O12: with an empty queue there is no operation to perform. -/
theorem stepWithoutInputWaits : Obligations.StepWithoutInputWaits := by
  intro s hin
  simp only [step, hin]

/-! ### The table of the result codes -/

/-- The result of an instruction is read off its next state. -/
theorem result_eq_of_exec {i : Instr} {s t u : State} (ht : exec i s = .next t) (hu : exec i s = .next u) :
    t.result = u.result := by
  rw [(exec_next_iff i s t).1 ht, (exec_next_iff i s u).1 hu]

theorem result_of_exec_sensor {a : Addr} {cnt : BitVec 21} {p : List Byte} {s t : State}
    (hi : (Instr.sensor a cnt p).wellFormed = true) (h : exec (.sensor a cnt p) s = .next t) :
    t.result = expectedResult (.sensor a cnt p) := by
  obtain ⟨hshort, hgroups⟩ := sensorFrameDecodesItsGroups a cnt p s hi
  simp only [expectedResult]
  split_ifs with hp
  · exact result_eq_of_exec h (hshort hp)
  · obtain ⟨u, hexec, hdone, _⟩ := hgroups (by omega)
    exact (result_eq_of_exec h hexec).trans hdone

theorem result_of_exec_valve {b : ValveBank} {f1 f2 : Byte} {p : List Byte} {s t : State}
    (h : exec (b.instr f1 f2 p) s = .next t) : t.result = shortBelow8 p :=
  (result_eq_of_exec h (exec_valve b f1 f2 p s)).trans (valveNext_result b f1 f2 p s)

theorem result_of_exec_node {n : Fin 3} {p : List Byte} {s t : State} (hi : (nodeInstr n p).wellFormed = true)
    (h : exec (nodeInstr n p) s = .next t) : t.result = expectedResult.nodeResult p := by
  cases p with
  | nil => exact result_eq_of_exec h (emptyNodeReportIsShort n s)
  | cons b p =>
    simp only [expectedResult.nodeResult]
    split_ifs with hb
    · obtain ⟨u, hexec, _, hdone, _⟩ := nodeReportSetsItsNode n b p s hi hb
      exact (result_eq_of_exec h hexec).trans hdone
    · exact result_eq_of_exec h (nodeReportOutOfRangeKeepsState n b p s hi (by omega))

theorem result_of_exec_autoseq {p : List Byte} {s t : State} (hi : (Instr.autoseq p).wellFormed = true)
    (h : exec (.autoseq p) s = .next t) : t.result = expectedResult (.autoseq p) := by
  obtain ⟨hshort, htime⟩ := autoseqFrameCountsOrAppends p s hi
  simp only [expectedResult]
  split_ifs with hp
  · exact result_eq_of_exec h (hshort hp)
  · obtain ⟨hduplicate, hchange⟩ := htime (by omega)
    by_cases hdup : s.asValid = true ∧ F64.eq (F64.ofIntDiv (signedBigEndian p) 1000000) s.asTime = true
    · exact result_eq_of_exec h (hduplicate hdup)
    · exact result_eq_of_exec h (hchange hdup)

theorem result_of_exec_throttle {p : List Byte} {s t : State} (hi : (Instr.throttle p).wellFormed = true)
    (h : exec (.throttle p) s = .next t) : t.result = expectedResult (.throttle p) := by
  obtain ⟨hshort, hpairs⟩ := throttleFrameAppendsItsPairs p s hi
  simp only [expectedResult]
  split_ifs with hp
  · exact result_eq_of_exec h (hshort hp)
  · exact result_eq_of_exec h (hpairs (by omega))

theorem result_of_exec_generic {mk : Addr → List Byte → Instr} {kind : Kind} {r : Nat → Nat → Result}
    (hframe : GenericFrame mk kind r) {a : Addr} {p : List Byte} {s t : State} (hi : (mk a p).wellFormed = true)
    (h : exec (mk a p) s = .next t) : t.result = expectedResult.ctrlResult p (r a.toNat p.length) := by
  obtain ⟨_, hempty, hshort, hwords⟩ := hframe a p s hi
  simp only [expectedResult.ctrlResult]
  split_ifs with h0 h4
  · exact result_eq_of_exec h (hempty h0)
  · exact result_eq_of_exec h (hshort (by omega))
  · obtain ⟨u, hexec, _, hresult, _⟩ := hwords (by omega)
    exact (result_eq_of_exec h hexec).trans hresult

/-- Settles O18: the statements on the frames of each class say its result. -/
theorem resultCodesFollowTheTable : Obligations.ResultCodesFollowTheTable := by
  intro i s t hi h
  cases i with
  | ignore a p => exact result_eq_of_exec h (ignoreFrameOnlyCounts.1 a p s)
  | nodeNop a p => exact result_eq_of_exec h (nodeNopFrameOnlyCounts a p s hi)
  | sensor a cnt p => exact result_of_exec_sensor hi h
  | clock p => exact result_eq_of_exec h (clockFrameAppendsItsRecord p s hi)
  | valveEng f1 f2 p => exact result_of_exec_valve (b := .eng) h
  | valvePri f1 f2 p => exact result_of_exec_valve (b := .pri) h
  | valveProp f1 f2 p => exact result_of_exec_valve (b := .prop) h
  | node514 p => exact result_of_exec_node (n := 0) hi h
  | node515 p => exact result_of_exec_node (n := 1) hi h
  | node520 p => exact result_of_exec_node (n := 2) hi h
  | autoseq p => exact result_of_exec_autoseq hi h
  | throttle p => exact result_of_exec_throttle hi h
  | ctrlI32 a p => exact result_of_exec_generic ctrlI32FrameWritesItsWords hi h
  | ctrlU32 a p => exact result_of_exec_generic ctrlU32FrameWritesItsWords hi h
  | ctrlF32 a p => exact result_of_exec_generic ctrlF32FrameWritesItsWords hi h

/-! ### Sensor times -/

/-- The rollover registers and the sensor times, recorded ones included, are numbers that are not negative. -/
def SensorTimesNonneg (s : State) : Prop :=
  NonnegF64 s.rcLast = true ∧ NonnegF64 s.rcAcc = true ∧
  ∀ i : Fin nSensor, NonnegF64 s.stime[i] = true ∧ ∀ r ∈ s.sledger[i], NonnegF64 r.time = true

theorem Update.sensorTimes {l : List Component} {s t : State} (h : Update l s t) :
    (Unchanged .sensorBanks s t ∧ Unchanged .rolloverClock s t) ∨
      ∃ sid v cnt, t = group config sid v (rawTime config cnt) s := by
  cases h with
  | bookkeeping h => exact .inl ⟨h _, h _⟩
  | sample sid v cnt => exact .inr ⟨sid, v, cnt, rfl⟩
  | _ => exact .inl (by simp [Unchanged])

theorem nonnegF64_rawTime (cnt : BitVec 21) : NonnegF64 (rawTime config cnt) = true := by
  obtain ⟨hfin, hneg, _⟩ := rawTimestampIsExact cnt
  exact (nonnegF64_iff _).2 ⟨hfin, hneg⟩

theorem toRat_rawTime_lt (cnt : BitVec 21) : F64.toRat (rawTime config cnt) < 2 ^ 53 := by
  have hcnt : (cnt.toNat : Rat) < 2 ^ 21 := by exact_mod_cast cnt.isLt
  rw [toRat_rawTime]
  linarith

/-- A wrap period is too small to carry RC_ACC over the last number (41_sensor.md R136). -/
theorem nonnegF64_rolloverAcc {raw last acc : F64} (hacc : NonnegF64 acc = true) :
    NonnegF64 (rolloverAcc config raw last acc) = true := by
  have hperiod : config.wrapPeriod < 2 ^ 53 := by decide
  rw [rolloverAcc]
  split_ifs
  · exact nonnegF64_add hacc (nonnegF64_ofNat hperiod)
      (F64.toRat_add_lt_overflowBound (F64.isFinite_of_nonneg hacc) (F64.toRat_ofNat_lt hperiod))
  · exact hacc

theorem nonnegF64_storedTime (cnt : BitVec 21) {acc : F64} (hacc : NonnegF64 acc = true) :
    NonnegF64 (storedTime config (rawTime config cnt) acc) = true := by
  have hdivisor : config.timeDivisor < 2 ^ 53 := by decide
  have hone : 1 ≤ F64.toRat (F64.ofNat config.timeDivisor) := by
    rw [F64.toRat_ofNat hdivisor]
    exact_mod_cast (by decide : 1 ≤ config.timeDivisor)
  have hsum := F64.toRat_add_lt_overflowBound (F64.isFinite_of_nonneg hacc) (toRat_rawTime_lt cnt)
  rw [add_comm] at hsum
  exact nonnegF64_div (nonnegF64_add (nonnegF64_rawTime cnt) hacc hsum) (nonnegF64_ofNat hdivisor) hone

theorem SensorTimesNonneg.group {s : State} (hs : SensorTimesNonneg s) (sid : Nat) (v : Word) (cnt : BitVec 21) :
    SensorTimesNonneg (group config sid v (rawTime config cnt) s) := by
  obtain ⟨_, hacc, htimes⟩ := hs
  have hacc' := nonnegF64_rolloverAcc (raw := rawTime config cnt) (last := s.rcLast) hacc
  have hstored := nonnegF64_storedTime cnt hacc'
  simp only [SensorTimesNonneg, group_rcLast, group_rcAcc, group_stime, group_sledger, Fin.getElem_fin,
    getElem_modifyAt] at htimes ⊢
  refine ⟨nonnegF64_rawTime cnt, hacc', fun i => ?_⟩
  obtain ⟨htime, hledger⟩ := htimes i
  split_ifs
  · refine ⟨hstored, List.forall_mem_append.2 ⟨hledger, ?_⟩⟩
    simpa only [List.forall_mem_singleton] using hstored
  · exact ⟨htime, hledger⟩

theorem SensorTimesNonneg.update {l : List Component} {s t : State} (h : Update l s t) (hs : SensorTimesNonneg s) :
    SensorTimesNonneg t := by
  obtain ⟨⟨_, hstime, hsledger⟩, hlast, hacc⟩ | ⟨sid, v, cnt, rfl⟩ := h.sensorTimes
  · simpa only [SensorTimesNonneg, hstime, hsledger, hlast, hacc] using hs
  · exact hs.group sid v cnt

/-! ### Debug times -/

/-- The recorded debug times are numbers that are not negative. -/
def DebugTimesNonneg (s : State) : Prop := ∀ r ∈ s.dbgLedger, NonnegF64 r.combinedSeconds = true

theorem Update.debugLedger {l : List Component} {s t : State} (h : Update l s t) :
    Unchanged .debugLedger s t ∨ ∃ p u, t = appendDebug (debugRecord config p u) s := by
  cases h with
  | bookkeeping h => exact .inl (h _)
  | debug p => exact .inr ⟨p, s, rfl⟩
  | _ => exact .inl (by simp [Unchanged])

theorem le_memRead_four_lt (p : List Byte) (off : Nat) : le (memRead p off 4) < 2 ^ 32 := by
  have hlen : (memRead p off 4).length ≤ 4 := List.length_take_le 4 _
  calc le (memRead p off 4) < 256 ^ (memRead p off 4).reverse.length := be_lt _
    _ ≤ 256 ^ 4 := Nat.pow_le_pow_right (by decide) (by rwa [List.length_reverse])
    _ = 2 ^ 32 := rfl

theorem nonnegF64_micro : NonnegF64 (F64.nearest false 1 config.microDen) = true := by
  rw [nearest_microDen]
  decide

theorem toRat_micro_le_one : F64.toRat (F64.nearest false 1 config.microDen) ≤ 1 := by
  have hone : F64.toRat (F64.ofNat 1) = 1 := by rw [F64.toRat_ofNat (by decide), Nat.cast_one]
  rw [nearest_microDen, ← hone, F64.toRat_le_toRat_iff]
  decide +kernel

/-- The product is no more than its microseconds, and two words of 32 bits do not reach the end of the numbers
(45_clock_debug.md R223). -/
theorem nonnegF64_combinedSeconds {sec usec : Nat} (hsec : sec < 2 ^ 32) (husec : usec < 2 ^ 32) :
    NonnegF64 (combinedSeconds config sec usec) = true := by
  have hsec' : sec < 2 ^ 53 := by omega
  have husec' : usec < 2 ^ 53 := by omega
  obtain ⟨hproduct, hle⟩ := nonnegF64_mul (nonnegF64_ofNat husec') nonnegF64_micro toRat_micro_le_one
  exact nonnegF64_add (nonnegF64_ofNat hsec') hproduct
    (F64.toRat_add_lt_overflowBound (F64.isFinite_ofNat hsec') (hle.trans_lt (F64.toRat_ofNat_lt husec')))

theorem debugRecord_combinedSeconds (cfg : Config) (p : List Byte) (s : State) :
    (debugRecord cfg p s).combinedSeconds = combinedSeconds cfg (clockSeconds p) (clockMicroseconds p) := by
  rw [debugRecord]

theorem nonnegF64_debugRecord (p : List Byte) (s : State) :
    NonnegF64 (debugRecord config p s).combinedSeconds = true := by
  rw [debugRecord_combinedSeconds, clockSeconds, clockMicroseconds]
  exact nonnegF64_combinedSeconds (le_memRead_four_lt p 0) (le_memRead_four_lt p 4)

theorem DebugTimesNonneg.update {l : List Component} {s t : State} (h : Update l s t) (hs : DebugTimesNonneg s) :
    DebugTimesNonneg t := by
  obtain hsame | ⟨p, u, rfl⟩ := h.debugLedger
  · simp only [Unchanged] at hsame
    simpa only [DebugTimesNonneg, hsame] using hs
  · rw [DebugTimesNonneg, appendDebug_dbgLedger, List.forall_mem_append, List.forall_mem_singleton]
    exact ⟨hs, nonnegF64_debugRecord p u⟩

/-! ### Autosequence times -/

/-- AS_TIME and the recorded autosequence times are ordinary numbers, and the recorded sensor times not negative. -/
def AutoseqTimesOrdinary (s : State) : Prop :=
  OrdinaryF64 s.asTime = true ∧
  ∀ r ∈ s.asLedger, NonnegF64 r.maxKnownSensorTimestamp = true ∧ OrdinaryF64 r.autosequenceTime = true

theorem AutoseqTimesOrdinary.of_unchanged {s t : State} (hs : AutoseqTimesOrdinary s)
    (h : Unchanged .autosequence s t) : AutoseqTimesOrdinary t := by
  obtain ⟨_, htime, _, hledger⟩ := h
  simpa only [AutoseqTimesOrdinary, htime, hledger] using hs

theorem AutoseqTimesOrdinary.autoseqTime {s : State} (hs : AutoseqTimesOrdinary s)
    (hmax : NonnegF64 (maxSensorTime s) = true) {t : F64} (ht : OrdinaryF64 t = true) :
    AutoseqTimesOrdinary (autoseqTime t s) := by
  by_cases hdup : s.asValid = true ∧ F64.eq t s.asTime = true
  · rw [autoseqTime_of_duplicate t s hdup]
    simpa only [AutoseqTimesOrdinary, putDup_asTime, putDup_asLedger] using hs
  · obtain ⟨_, hledger⟩ := hs
    rw [autoseqTime_of_change t s hdup, AutoseqTimesOrdinary, putAutoseq_asTime, putAutoseq_asLedger, putDup_asLedger]
    refine ⟨ht, List.forall_mem_append.2 ⟨hledger, ?_⟩⟩
    simpa only [List.forall_mem_singleton] using ⟨hmax, ht⟩

theorem SensorTimesNonneg.maxSensorTime {s : State} (hs : SensorTimesNonneg s) :
    NonnegF64 (maxSensorTime s) = true := by
  obtain ⟨_, _, htimes⟩ := hs
  obtain ⟨⟨i, hmax⟩, _⟩ := recordedSensorTimeIsTheLargest s fun i => (htimes i).1
  rw [hmax]
  exact (htimes i).1

theorem natAbs_sint_le {N v : Nat} (hv : v < 2 ^ N) : (sint N v).natAbs ≤ 2 ^ N := by
  have hcast : ((2 ^ N : Nat) : Int) = 2 ^ N := by push_cast; rfl
  rw [sint, ← hcast]
  split_ifs <;> omega

theorem natAbs_autoseqInt_le {p : List Byte} (hp : p.length ≤ 8) : (autoseqInt config p).natAbs ≤ 2 ^ 64 := by
  have hlt : be p < 2 ^ (8 * p.length) := by
    rw [pow_mul]
    exact be_lt p
  exact (natAbs_sint_le hlt).trans (Nat.pow_le_pow_right two_pos (by omega))

theorem lt_unitsPerOne {n : Nat} (h : n < 2 ^ 64) : n < unitsPerOne := by
  have hle : 64 ≤ 1074 := by decide
  rw [unitsPerOne]
  exact h.trans_le (pow_le_pow_right' one_le_two hle)

/-- A time of at least a microsecond is not rounded to zero, negative or not (44_controller.md R183). -/
theorem ordinaryF64_autoseqSeconds {p : List Byte} (hp : p.length ≤ 8) :
    OrdinaryF64 (autoseqSeconds config (autoseqInt config p)) = true := by
  have hint := natAbs_autoseqInt_le hp
  rw [autoseqSeconds_config]
  exact ordinaryF64_ofIntDiv (by decide) (by omega) (lt_unitsPerOne (by decide))

theorem AutoseqTimesOrdinary.autoseq {s : State} (hs : AutoseqTimesOrdinary s) (hsensor : SensorTimesNonneg s)
    {p : List Byte} (hp : p.length ≤ 8) : AutoseqTimesOrdinary (autoseq config p s) := by
  rw [Machine.autoseq]
  split_ifs
  · exact hs.of_unchanged (unchanged_raise _ s _)
  · exact hs.autoseqTime hsensor.maxSensorTime (ordinaryF64_autoseqSeconds hp)

/-- AUTOSEQ alone writes autosequence times (10_state.md R46). -/
theorem AutoseqTimesOrdinary.exec {i : Instr} (hi : i.wellFormed = true) {s t : State} (hs : AutoseqTimesOrdinary s)
    (hsensor : SensorTimesNonneg s) (h : exec i s = .next t) : AutoseqTimesOrdinary t := by
  cases i with
  | autoseq p =>
    obtain ⟨hp, _⟩ := Bool.and_eq_true_iff.1 hi
    have hbegun := hs.of_unchanged (unchanged_beginStep _ s)
    have hsensor' := hsensor.update (.bookkeeping (l := []) fun c => unchanged_beginStep c s)
    rw [(exec_next_iff _ s t).1 h]
    exact (hbegun.autoseq hsensor' (of_decide_eq_true hp)).of_unchanged (unchanged_countFrame _ _)
  | _ => exact hs.of_unchanged ((exec_updates hi h).unchanged (by simp [Instr.frameClass, writeSet]))

/-! ### Every f64 register and ledger -/

theorem f64RegistersOrdinary_iff (s : State) :
    F64RegistersOrdinary s ↔ SensorTimesNonneg s ∧ AutoseqTimesOrdinary s ∧ DebugTimesNonneg s := by
  simp only [F64RegistersOrdinary, SensorTimesNonneg, AutoseqTimesOrdinary, DebugTimesNonneg]
  tauto

theorem step_autoseqTimesOrdinary {s t : State} (hs : AutoseqTimesOrdinary s) (hsensor : SensorTimesNonneg s)
    (h : step s = .next t) : AutoseqTimesOrdinary t := by
  obtain ⟨_, rfl⟩ | ⟨f, rest, i, _, hdecode, hexec⟩ | ⟨rest, _, rfl⟩ := step_next_cases h
  · exact hs
  · have hsensor' := hsensor.update (.bookkeeping (l := []) fun c => unchanged_inbox c s rest)
    exact (hs.of_unchanged (unchanged_inbox _ s rest)).exec (wellFormed_of_decode hdecode) hsensor' hexec
  · obtain ⟨_, hreset, _⟩ := (f64RegistersOrdinary_iff _).1 f64RegistersOrdinary_reset
    exact hreset.of_unchanged (unchanged_inbox _ State.reset _)

/-- Settles O51: every update keeps the sensor and the debug times; an autosequence time is a payload integer divided
once, beside the largest sensor time. -/
theorem stepKeepsF64RegistersOrdinary : Obligations.StepKeepsF64RegistersOrdinary := by
  intro s t hs h
  have hreset := f64RegistersOrdinary_reset
  rw [f64RegistersOrdinary_iff] at hs hreset ⊢
  obtain ⟨hsensor, hautoseq, hdebug⟩ := hs
  obtain ⟨hsensor₀, _, hdebug₀⟩ := hreset
  exact ⟨step_keeps hsensor₀ SensorTimesNonneg.update hsensor h, step_autoseqTimesOrdinary hautoseq hsensor h,
    step_keeps hdebug₀ DebugTimesNonneg.update hdebug h⟩

end Sys2Proof.Machine
end

section
/-! SUPPORT. The statements of 70_reset_and_hazards.md: a reset leaves the reset store, and what only a reset may
forget no frame forgets. -/

namespace Sys2Proof.Machine

open Sys2Proof.Claims

/-! ### Reset -/

/-- Settles O13: performing a reset leaves the reset store, whatever the state. -/
theorem stepOnResetLeavesTheResetStore : Obligations.StepOnResetLeavesTheResetStore :=
  fun _ _ => step_of_reset

/-! ### Ledgers and AS_VALID -/

/-- Every ledger that only a reset may shorten has grown at its end, and a set AS_VALID is still set. -/
structure Remembers (s t : State) : Prop where
  sledger (i : Fin nSensor) : s.sledger[i] <+: t.sledger[i]
  asLedger : s.asLedger <+: t.asLedger
  dbgLedger : s.dbgLedger <+: t.dbgLedger
  asValid : s.asValid = true → t.asValid = true

theorem Remembers.refl (s : State) : Remembers s s :=
  ⟨fun _ => List.prefix_rfl, List.prefix_rfl, List.prefix_rfl, id⟩

theorem Remembers.trans {s t u : State} (hst : Remembers s t) (htu : Remembers t u) : Remembers s u where
  sledger i := (hst.sledger i).trans (htu.sledger i)
  asLedger := hst.asLedger.trans htu.asLedger
  dbgLedger := hst.dbgLedger.trans htu.dbgLedger
  asValid hs := htu.asValid (hst.asValid hs)

theorem Update.sledger_prefix {l : List Component} {s t : State} (h : Update l s t) (i : Fin nSensor) :
    s.sledger[i] <+: t.sledger[i] := by
  obtain ⟨_, _, hsledger⟩ | ⟨sid, v, cnt, _, _, rfl⟩ := h.sensorBanks
  · rw [hsledger]
  · rw [group_sledger, Fin.getElem_fin, Fin.getElem_fin, getElem_modifyAt]
    split_ifs
    · exact List.prefix_append _ _
    · exact List.prefix_rfl

theorem Update.autoseq_remembered {l : List Component} {s t : State} (h : Update l s t) :
    s.asLedger <+: t.asLedger ∧ (s.asValid = true → t.asValid = true) := by
  obtain ⟨hvalid, _, _, hledger⟩ | ⟨v, rfl⟩ := h.autosequence
  · exact ⟨by rw [hledger], by rw [hvalid]; exact id⟩
  · by_cases hdup : s.asValid = true ∧ F64.eq (autoseqSeconds config v) s.asTime = true
    · rw [autoseqTime_of_duplicate _ s hdup, putDup_asLedger, putDup_asValid]
      exact ⟨List.prefix_rfl, id⟩
    · rw [autoseqTime_of_change _ s hdup, putAutoseq_asLedger, putDup_asLedger, putAutoseq_asValid]
      exact ⟨List.prefix_append _ _, fun _ => rfl⟩

theorem Update.dbgLedger_prefix {l : List Component} {s t : State} (h : Update l s t) :
    s.dbgLedger <+: t.dbgLedger := by
  obtain hledger | ⟨p, u, rfl⟩ := h.debugLedger
  · simp only [Unchanged] at hledger
    rw [hledger]
  · rw [appendDebug_dbgLedger]
    exact List.prefix_append _ _

theorem Update.remembers {l : List Component} {s t : State} (h : Update l s t) : Remembers s t := by
  obtain ⟨hledger, hvalid⟩ := h.autoseq_remembered
  exact ⟨h.sledger_prefix, hledger, h.dbgLedger_prefix, hvalid⟩

theorem Updates.remembers {l : List Component} {s t : State} (h : Updates l s t) : Remembers s t :=
  h.keeps (P := Remembers s) (fun hupdate hs => hs.trans hupdate.remembers) (.refl s)

/-! ### RC_ACC -/

/-- Rounding does not pass a number from above either. -/
theorem IsRounding.le_toRat {x y : F64} {q : Rat} (hx : IsRounding x q) (hfin : F64.isFinite x = true)
    (hy : F64.isFinite y = true) (h : F64.toRat y ≤ q) : F64.toRat y ≤ F64.toRat x := by
  obtain ⟨_, hnearest, _⟩ := hx
  obtain ⟨hnear, _⟩ := hnearest hfin y hy
  rw [abs_of_nonpos (sub_nonpos.2 h)] at hnear
  linarith [neg_le_abs (F64.toRat x - q)]

/-- Adding a wrap period and rounding does not lower RC_ACC (41_sensor.md R136). -/
theorem toRat_le_toRat_rolloverAcc {raw last acc : F64} (hacc : NonnegF64 acc = true) :
    F64.toRat acc ≤ F64.toRat (rolloverAcc config raw last acc) := by
  have hperiod : config.wrapPeriod < 2 ^ 53 := by decide
  have hfin := F64.isFinite_of_nonneg hacc
  have hfin' := F64.isFinite_of_nonneg (nonnegF64_rolloverAcc (raw := raw) (last := last) hacc)
  rw [rolloverAcc] at hfin' ⊢
  split_ifs at hfin' ⊢
  · refine IsRounding.le_toRat (isRounding_add hfin (F64.isFinite_ofNat hperiod)) hfin' hfin ?_
    exact le_add_of_nonneg_right (F64.toRat_nonneg (F64.isNeg_ofNat _))
  · exact le_rfl

theorem Update.toRat_rcAcc_le {l : List Component} {s t : State} (h : Update l s t) (hs : SensorTimesNonneg s) :
    F64.toRat s.rcAcc ≤ F64.toRat t.rcAcc := by
  obtain ⟨_, _, hacc⟩ | ⟨sid, v, cnt, rfl⟩ := h.sensorTimes
  · rw [hacc]
  · obtain ⟨_, hnonneg, _⟩ := hs
    rw [group_rcAcc]
    exact toRat_le_toRat_rolloverAcc hnonneg

theorem Updates.toRat_rcAcc_le {l : List Component} {s t : State} (h : Updates l s t) (hs : SensorTimesNonneg s) :
    F64.toRat s.rcAcc ≤ F64.toRat t.rcAcc := by
  obtain ⟨_, hle⟩ := h.keeps (P := fun u => SensorTimesNonneg u ∧ F64.toRat s.rcAcc ≤ F64.toRat u.rcAcc)
    (fun hupdate ⟨hu, hle⟩ => ⟨hu.update hupdate, hle.trans (hupdate.toRat_rcAcc_le hu)⟩) ⟨hs, le_rfl⟩
  exact hle

/-! ### Channel 1 of the valve banks -/

theorem unchanged_component_iff (b : ValveBank) (s t : State) :
    Unchanged b.component s t ↔ b.channels t = b.channels s := by
  cases b <;> rfl

/-- Only a bank's own instruction may write it (10_state.md R46). -/
theorem eq_instr_of_component_mem_writeSet {b : ValveBank} {i : Instr}
    (h : b.component ∈ writeSet i.frameClass) : ∃ f1 f2 p, i = b.instr f1 f2 p := by
  cases i with
  | valveEng f1 f2 p | valvePri f1 f2 p | valveProp f1 f2 p =>
    cases b <;> simp_all [writeSet, Instr.frameClass, ValveBank.component, ValveBank.instr]
  | _ => cases b <;> simp [writeSet, Instr.frameClass, ValveBank.component] at h

/-- A decoder that keeps zeros out of channel 1 puts none there (42_valve.md R154, R161). -/
theorem exec_channelOne_ne_zero {b : ValveBank} (hb : keepsZero b = true) {i : Instr} (hi : i.wellFormed = true)
    {s t : State} (h : exec i s = .next t) (hs : (b.channels s)[1] ≠ 0) : (b.channels t)[1] ≠ 0 := by
  by_cases hwrites : b.component ∈ writeSet i.frameClass
  · obtain ⟨f1, f2, p, rfl⟩ := eq_instr_of_component_mem_writeSet hwrites
    obtain rfl : valveNext b f1 f2 p s = t := by simpa only [exec_valve, Host.Outcome.next.injEq] using h
    rw [valveNext_channelOne_of_keepsZero b f1 f2 p s hb]
    split_ifs with hzero
    · exact hs
    · exact hzero
  · rwa [(unchanged_component_iff b s t).1 ((exec_updates hi h).unchanged hwrites)]

theorem step_frame_channelOne_ne_zero {b : ValveBank} (hb : keepsZero b = true) {s t : State} {f : RawFrame}
    {rest : List HostOp} (hin : s.inbox = .frame f :: rest) (h : step s = .next t) (hs : (b.channels s)[1] ≠ 0) :
    (b.channels t)[1] ≠ 0 := by
  obtain ⟨hnone, _⟩ | ⟨_, rest', i, _, hdecode, hexec⟩ | ⟨_, hreset, _⟩ := step_next_cases h
  · simp [hin] at hnone
  · have hchannels : b.channels { s with inbox := rest' } = b.channels s :=
      (unchanged_component_iff b s _).1 (unchanged_inbox _ s rest')
    exact exec_channelOne_ne_zero hb (wellFormed_of_decode hdecode) hexec (by rwa [hchannels])
  · simp [hin] at hreset

/-! ### What only a reset may forget -/

/-- Settles O54: no elementary update of a frame shortens a ledger, lowers RC_ACC or clears AS_VALID; channel 1 is read
off the whole frame, as a bare bank write could store a zero. -/
theorem onlyResetForgets : Obligations.OnlyResetForgets := by
  intro s t f rest hin h
  have hupdates := step_frame_updates hin h
  obtain ⟨hsledger, hasLedger, hdbgLedger, hasValid⟩ := hupdates.remembers
  refine ⟨hsledger, hasLedger, hdbgLedger, fun hordinary => ?rcAcc, hasValid,
    step_frame_channelOne_ne_zero (b := .pri) rfl hin h, step_frame_channelOne_ne_zero (b := .prop) rfl hin h⟩
  case rcAcc =>
    obtain ⟨hsensor, _⟩ := (f64RegistersOrdinary_iff s).1 hordinary
    exact hupdates.toRat_rcAcc_le hsensor

end Sys2Proof.Machine
end
